-- ==== Sys2Proof/Word.lean ====
section
/-! DEFINITION. The word types of the block (00_scope.md R11): bytes, 16-bit bus words and coordinates, 32-bit
words and masks, and the 32 GPIO lines. -/

namespace Sys2Proof

/-- A byte: a command byte, a parameter byte or a pixel index (00_scope.md R11). -/
abbrev Byte := BitVec 8

/-- What the data lines D[15:0] carry (00_scope.md R8 `BUS_W`, R11). -/
abbrev BusWord := BitVec 16

/-- A coordinate as a descriptor and the bus carry it (30_encoding.md R102, R103). -/
abbrev Coord := BitVec 16

/-- A 32-bit register, mask, address or GPIO state (00_scope.md R8 `LINES`, R11). -/
abbrev Word := BitVec 32

/-- A GPIO line index, 0..31 (00_scope.md R8 `LINES`, R9). -/
abbrev Line := Fin 32

end Sys2Proof
end

