-- ==== Sys2Proof/Syntax.lean ====
section
/-! DEFINITION. The five requests (30_encoding.md R104), and the assembler's source lines, pseudo-instructions among them
(30_encoding.md R112, R113). -/

namespace Sys2Proof

/-- A request with its operands, one constructor per row of spec/opcode_table.json. Every operand is unsigned and has the
width of its field (30_encoding.md R101, R102). -/
inductive Instr where
  /-- `BEGIN` (41_panel_init.md R170). -/
  | begin
  /-- `SETWIN x0, y0, x1, y1` (42_addr_window.md R200). -/
  | setwin (x0 y0 x1 y1 : Coord)
  /-- `RENDER x1, y1, x2, y2, buf` (43_pixel_stream.md R220); the operands carry the descriptor's names, first corner
  `x0, y0`, last corner `x1, y1` (90_conflicts.md C3). -/
  | render (x0 y0 x1 y1 : Coord) (buf : Word)
  /-- `WRCMD byte` (40_bus_primitive.md R150). -/
  | wrcmd (byte : Byte)
  /-- `WRDATA byte` (40_bus_primitive.md R151). -/
  | wrdata (byte : Byte)
deriving DecidableEq, Repr

/-- One source line of the assembler: a request or a pseudo-instruction, its operands the numbers the line holds
(30_encoding.md R112, R113). -/
inductive AsmLine where
  | begin
  | setwin (x0 y0 x1 y1 : Nat)
  | render (x1 y1 x2 y2 buf : Nat)
  | wrcmd (byte : Nat)
  | wrdata (byte : Nat)
  /-- `CMD c, p1, ..., pn` -/
  | cmd (c : Nat) (params : List Nat)
  /-- `WAIT` -/
  | wait
  /-- `WAITMS n` -/
  | waitMs (n : Nat)
deriving DecidableEq, Repr

end Sys2Proof
end

