-- ==== Sys2Proof/Decode.lean ====
section
/-! DEFINITION. The request descriptor, its decoder and its encoder, both written from the field table of 30_encoding.md
R101 and the opcode map of R104, R105; and the mask and match table of R106. -/

namespace Sys2Proof

/-- A request descriptor: the four words of `REQ0` to `REQ3` (30_encoding.md R100). -/
structure Descriptor where
  req0 : Word
  req1 : Word
  req2 : Word
  req3 : Word
deriving DecidableEq, Repr

/-- Why a descriptor is illegal (30_encoding.md R105). The host sees one code, `ILLEGAL_REQ`, for all three
(notes/assumptions/21.md). -/
inductive DecodeError where
  /-- `REQ0[31:12]` is not 0. -/
  | reservedBits
  /-- `OP` is 0x0 or 0x6 to 0xF. -/
  | reservedOp
  /-- `OP` is not 0x4 or 0x5, and `REQ0[11:4]` is not 0. -/
  | byteUnused
deriving DecidableEq, Repr

/-! ## Fields (30_encoding.md R101, R102) -/

/-- `OP`: `REQ0[3:0]`. -/
def Descriptor.op (d : Descriptor) : BitVec 4 := d.req0.extractLsb' 0 4
/-- `BYTE`: `REQ0[11:4]`. -/
def Descriptor.byte (d : Descriptor) : Byte := d.req0.extractLsb' 4 8
/-- `REQ0[31:12]`, reserved, must be 0. -/
def Descriptor.reserved (d : Descriptor) : BitVec 20 := d.req0.extractLsb' 12 20
/-- `X0`: `REQ1[15:0]`. -/
def Descriptor.x0 (d : Descriptor) : Coord := d.req1.extractLsb' 0 16
/-- `Y0`: `REQ1[31:16]`. -/
def Descriptor.y0 (d : Descriptor) : Coord := d.req1.extractLsb' 16 16
/-- `X1`: `REQ2[15:0]`. -/
def Descriptor.x1 (d : Descriptor) : Coord := d.req2.extractLsb' 0 16
/-- `Y1`: `REQ2[31:16]`. -/
def Descriptor.y1 (d : Descriptor) : Coord := d.req2.extractLsb' 16 16
/-- `BUF`: `REQ3[31:0]`. -/
def Descriptor.buf (d : Descriptor) : Word := d.req3

/-- A request that has no byte operand: its `BYTE` field must be 0 (30_encoding.md R105). -/
def Descriptor.noByte (d : Descriptor) (i : Instr) : Except DecodeError Instr :=
  if d.byte = 0 then .ok i else .error .byteUnused

/-- The decoder: which request a descriptor stands for, or why it stands for none (30_encoding.md R101 to R105). Words an
opcode does not use are ignored. -/
def decode (d : Descriptor) : Except DecodeError Instr :=
  if d.reserved ≠ 0 then .error .reservedBits
  else match d.op.toNat with
    | 1 => d.noByte .begin
    | 2 => d.noByte (.setwin d.x0 d.y0 d.x1 d.y1)
    | 3 => d.noByte (.render d.x0 d.y0 d.x1 d.y1 d.buf)
    | 4 => .ok (.wrcmd d.byte)
    | 5 => .ok (.wrdata d.byte)
    | _ => .error .reservedOp

/-! ## The opcode map and the encoder -/

/-- `OP` of a request (30_encoding.md R104). -/
def opOf : Instr → BitVec 4
  | .begin => 1
  | .setwin _ _ _ _ => 2
  | .render _ _ _ _ _ => 3
  | .wrcmd _ => 4
  | .wrdata _ => 5

/-- `BYTE` of a request: its operand, or 0 where it has none (30_encoding.md R101). -/
def byteOf : Instr → Byte
  | .begin => 0
  | .setwin _ _ _ _ => 0
  | .render _ _ _ _ _ => 0
  | .wrcmd b => b
  | .wrdata b => b

/-- `REQ0` from its fields: 20 reserved zero bits, `BYTE`, `OP` (30_encoding.md R101). -/
def req0Of (op : BitVec 4) (byte : Byte) : Word := (0#20 ++ byte) ++ op

/-- `REQ1` or `REQ2` from its fields: the row in the high half, the column in the low half (30_encoding.md R101). -/
def cornerOf (x y : Coord) : Word := y ++ x

/-- The encoder: the descriptor a request is written as, unused words 0 (30_encoding.md R101, R112). -/
def encode (i : Instr) : Descriptor :=
  let r0 := req0Of (opOf i) (byteOf i)
  match i with
  | .begin => ⟨r0, 0, 0, 0⟩
  | .setwin x0 y0 x1 y1 => ⟨r0, cornerOf x0 y0, cornerOf x1 y1, 0⟩
  | .render x0 y0 x1 y1 buf => ⟨r0, cornerOf x0 y0, cornerOf x1 y1, buf⟩
  | .wrcmd _ => ⟨r0, 0, 0, 0⟩
  | .wrdata _ => ⟨r0, 0, 0, 0⟩

/-! ## The mask and match table (30_encoding.md R106) -/

/-- One row of the decoder table. -/
structure OpcodeRow where
  mnemonic : String
  mask     : Word
  pattern  : Word
deriving DecidableEq, Repr

/-- The table of 30_encoding.md R106, row by row. -/
def opcodeRows : List OpcodeRow :=
  [ ⟨"BEGIN",  0xFFFFFFFF, 0x00000001⟩,
    ⟨"SETWIN", 0xFFFFFFFF, 0x00000002⟩,
    ⟨"RENDER", 0xFFFFFFFF, 0x00000003⟩,
    ⟨"WRCMD",  0xFFFFF00F, 0x00000004⟩,
    ⟨"WRDATA", 0xFFFFF00F, 0x00000005⟩ ]

/-- The row's test of a `REQ0` value. -/
def OpcodeRow.matches (r : OpcodeRow) (w : Word) : Bool := w &&& r.mask == r.pattern

/-- The mnemonic of a request, as the table spells it (30_encoding.md R104). -/
def mnemonicOf : Instr → String
  | .begin => "BEGIN"
  | .setwin _ _ _ _ => "SETWIN"
  | .render _ _ _ _ _ => "RENDER"
  | .wrcmd _ => "WRCMD"
  | .wrdata _ => "WRDATA"

/-! ## Words numbered as spec/opcode_table.json numbers them -/

/-- The descriptor whose bits are the low `nbits` of `w`, bit 0 the least significant bit of `REQ0`, each later word's bits
counting on; every bit above is 0. -/
def descriptorOfNat (nbits w : Nat) : Descriptor :=
  let v := w % 2 ^ nbits
  ⟨.ofNat 32 v, .ofNat 32 (v / 2 ^ 32), .ofNat 32 (v / 2 ^ 64), .ofNat 32 (v / 2 ^ 96)⟩

/-- The request the decoder reads from an instruction whose bits are `w`; none where it refuses. -/
def decodeTableWord (nbits w : Nat) : Option Instr :=
  match decode (descriptorOfNat nbits w) with
  | .ok i => some i
  | .error _ => none

end Sys2Proof
end

