-- ==== Sys2Proof/Config.lean ====
section
/-! DEFINITION. What is fixed for one machine: the parameters of 00_scope.md R8 (numbers the source fixes) and R9
(parameters it leaves open), and the free values, which nothing in Lean can evaluate. `Config` is plain data; which
configurations are admitted is said in Machine/Admission.lean. -/

namespace Sys2Proof

/-- `PANEL_W`: panel columns after initialization (00_scope.md R8). -/
abbrev panelW : Nat := 480
/-- `PANEL_H`: panel rows after initialization (00_scope.md R8). -/
abbrev panelH : Nat := 320
/-- `LUT_N`: entries per lookup table (00_scope.md R8). -/
abbrev lutN : Nat := 256
/-- `GAMMA_LEN`: parameter bytes per gamma-curve command block (00_scope.md R8). -/
abbrev gammaLen : Nat := 15
/-- `T_RST_PRE`, in ms (00_scope.md R8). -/
abbrev tRstPre : Nat := 5
/-- `T_RST_LOW`, in ms (00_scope.md R8). -/
abbrev tRstLow : Nat := 20
/-- `T_RST_POST`, in ms (00_scope.md R8). -/
abbrev tRstPost : Nat := 150
/-- `T_SLPOUT`, in ms (00_scope.md R8). -/
abbrev tSlpout : Nat := 120

/-- The pin map: one GPIO line per signal (00_scope.md R9, R10; 10_state.md R31). -/
structure Pins where
  /-- `PIN_D[0..15]` -/
  d   : Vector Line 16
  dc  : Line
  wr  : Line
  rst : Line
  cs  : Line
  bl  : Line
deriving DecidableEq, Repr

/-- One command group of `INIT_SEQ`: a command byte and its parameter bytes (41_panel_init.md R172). -/
structure Group where
  command : Byte
  params  : List Byte
deriving DecidableEq, Repr

/-- `INIT_SEQ` in the order of 41_panel_init.md R172: two gamma groups, then ten configuration parts of one or more
groups each. -/
structure InitSeq where
  gamma1           : Group
  gamma2           : Group
  powerControl     : List Group
  vcom             : List Group
  memoryAccess     : List Group
  pixelFormat      : List Group
  interfaceMode    : List Group
  frameRate        : List Group
  inversionControl : List Group
  rgbInterface     : List Group
  imageFunction    : List Group
  adjustControl    : List Group
deriving DecidableEq, Repr

/-- The bus timing figures of 00_scope.md R9, in any one unit. No rule of the model reads them (70_reset_and_hazards.md
R290 to R293; notes/assumptions/18.md). -/
structure Timing where
  wrlMin    : Nat
  wrhMin    : Nat
  dcSetup   : Nat
  dataSetup : Nat
  dataHold  : Nat
deriving DecidableEq, Repr

/-- The addresses of the discrete-line registers, one register for each line the block writes or holds by itself
(20_memory.md R77, R81). No rule of the model reads them (notes/assumptions/18.md). -/
structure LineAddrs where
  dc  : Word
  wr  : Word
  rst : Word
  cs  : Word
  bl  : Word
deriving DecidableEq, Repr

/-- The parameters of 00_scope.md R9, and of 20_memory.md R81 the discrete-line registers. `ADDR_W` and `COORD_W` stand at
their defaults, in the types `Word` and `Coord` (DESIGN CHOICE, notes/assumptions/15.md). The addresses of the GPIO registers
and of the register block are 32 bits wide, a width the spec does not give (DESIGN CHOICE, notes/assumptions/28.md). -/
structure Config where
  pins    : Pins
  palette : Vector BusWord lutN
  cmdSet  : Vector Word lutN
  cmdClr  : Vector Word lutN
  colSet  : Vector Word lutN
  colClr  : Vector Word lutN
  opCaset  : Byte
  opPaset  : Byte
  opRamwr  : Byte
  opSlpout : Byte
  opDispon : Byte
  initSeq : InitSeq
  unroll  : Nat
  nopLow  : Nat
  nopHigh : Nat
  timing  : Timing
  gpioSetAddr : Word
  gpioClrAddr : Word
  lineAddrs   : LineAddrs
  regBase     : Word
deriving DecidableEq, Repr

/-- A 32-bit value the spec leaves open, the `k`-th draw of a run: what OUT and the argument latches hold after a reset
move (10_state.md R51, "a draw"; notes/assumptions/3.md, 4.md). -/
opaque Config.freeWord : Nat → Word

/-- A count the spec leaves open: what `N` and `n` hold after a reset move (10_state.md R51; notes/assumptions/4.md). -/
opaque Config.freeCount : Nat → Nat

/-- How many of its steps the block performs while the host waits at least `n` ms: no source gives a clock
(30_encoding.md R113, 70_reset_and_hazards.md R299; notes/assumptions/20.md). -/
opaque Config.stepsInMs : Nat → Nat

end Sys2Proof
end

