-- ==== Sys2Proof/Machine/Lines.lean ====
section
/-! DEFINITION. GPIO states and masks seen through the pin map: one line's bit, the data word a GPIO state presents, the
mask that places a bus word (00_scope.md R13), and the effect of a set and a clear write (10_state.md R38). -/

namespace Sys2Proof.Machine

/-- The mask that names line `p` alone: `1 << p` (00_scope.md R13). -/
def lineBit (p : Line) : Word := 1#32 <<< p.val

/-- The level of line `p` in GPIO state `s` (10_state.md R30). -/
def levelOf (s : Word) (p : Line) : Bool := s.getLsbD p.val

/-- GPIO state `s` with line `p` at level `v` and every other line as it was (20_memory.md R77). -/
def withLine (s : Word) (p : Line) (v : Bool) : Word :=
  if v then s ||| lineBit p else s &&& ~~~lineBit p

/-- `Apply(s, set, clr) = (s | set) & ~clr` (10_state.md R38). -/
def applyMasks (s set clr : Word) : Word := (s ||| set) &&& ~~~clr

/-- The mask for the lines `ps`, bit `k` of `w` deciding the first line, bit `k + 1` the next. -/
def placeFrom : List Line → Nat → BusWord → Word
  | [], _, _ => 0
  | p :: ps, k, w => (if w.getLsbD k then lineBit p else 0) ||| placeFrom ps (k + 1) w

/-- `place(w)`: the mask with line `PIN_D[k]` as bit `k` of `w` and every other bit 0 (00_scope.md R13). -/
def place (pins : Pins) (w : BusWord) : Word := placeFrom pins.d.toList 0 w

/-- The bus word whose bits from `k` on are the levels of the lines `ps`. -/
def dataFrom : List Line → Nat → Word → BusWord
  | [], _, _ => 0
  | p :: ps, k, s => (if levelOf s p then 1#16 <<< k else 0) ||| dataFrom ps (k + 1) s

/-- `D(s)`: the bus word GPIO state `s` presents on the data lines (00_scope.md R13). -/
def dataWord (pins : Pins) (s : Word) : BusWord := dataFrom pins.d.toList 0 s

/-- `DMASK = place(0xFFFF)` (00_scope.md R13). -/
def dataMask (pins : Pins) : Word := place pins 0xFFFF

/-- `WRBIT`, `DCBIT`, `RSTBIT`, `CSBIT`, `BLBIT` (00_scope.md R13). -/
def wrBit (pins : Pins) : Word := lineBit pins.wr
def dcBit (pins : Pins) : Word := lineBit pins.dc
def rstBit (pins : Pins) : Word := lineBit pins.rst
def csBit (pins : Pins) : Word := lineBit pins.cs
def blBit (pins : Pins) : Word := lineBit pins.bl

/-- The 21 signal lines (00_scope.md R10). -/
def signalLines (pins : Pins) : List Line :=
  pins.d.toList ++ [pins.dc, pins.wr, pins.rst, pins.cs, pins.bl]

/-- The mask that names the 21 signal lines. -/
def signalMask (pins : Pins) : Word :=
  dataMask pins ||| dcBit pins ||| wrBit pins ||| rstBit pins ||| csBit pins ||| blBit pins

end Sys2Proof.Machine
end

