-- ==== Sys2Proof/Machine/Admission.lean ====
section
/-! DEFINITION. The lookup tables and the configuration check (10_state.md R33 to R40, 41_panel_init.md R172): what an
entry encodes, and which configurations are admitted. A board is an admitted configuration, so the model defines no run
for any other. -/

namespace Sys2Proof.Machine

/-- The four lookup tables (10_state.md R33, R34; 90_conflicts.md C7). -/
inductive Lut where
  | cmdSet | cmdClr | colSet | colClr
deriving DecidableEq, Repr

/-- A table by its name. -/
def tableOf (c : Config) : Lut → Vector Word lutN
  | .cmdSet => c.cmdSet
  | .cmdClr => c.cmdClr
  | .colSet => c.colSet
  | .colClr => c.colClr

/-- `LutRead(T, i)`: entry `i` of table `T`; an 8-bit index is always in range (20_memory.md R74). -/
def lutRead (c : Config) (t : Lut) (i : Byte) : Word := (tableOf c t)[i.toNat]'i.isLt

/-- `PALETTE(i)`: the 16-bit colour code of pixel index `i` (10_state.md R36). -/
def paletteOf (c : Config) (i : Byte) : BusWord := c.palette[i.toNat]'i.isLt

/-- `CMDWORD(b)`: the byte on D[7:0] and zero on D[15:8] (10_state.md R37). -/
def cmdWord (b : Byte) : BusWord := b.setWidth 16

/-- The entry `(set, clr)` encodes bus word `w`: the five conditions (a) to (e) of 10_state.md R39. -/
def encodes (pins : Pins) (set clr : Word) (w : BusWord) : Bool :=
  set &&& ~~~dataMask pins == 0
  && clr &&& ~~~(dataMask pins ||| wrBit pins) == 0
  && clr &&& wrBit pins == wrBit pins
  && (set ||| clr) &&& dataMask pins == dataMask pins
  && (set &&& ~~~clr) &&& dataMask pins == place pins w

/-- The canonical entry for `w`: `set = place(w)`, `clr = place(~w & 0xFFFF) | WRBIT` (10_state.md R40). -/
def canonicalSet (pins : Pins) (w : BusWord) : Word := place pins w
def canonicalClr (pins : Pins) (w : BusWord) : Word := place pins (~~~w) ||| wrBit pins

/-- The 256 bytes, in order. -/
def allBytes : List Byte := (List.range 256).map (BitVec.ofNat 8)

/-- (1) of 10_state.md R40: the 21 pins are distinct; that each is in 0..31 is their type. -/
def pinsDistinct (pins : Pins) : Bool := decide (signalLines pins).Nodup

/-- (2) of 10_state.md R40: every command-table entry encodes `CMDWORD(b)`. -/
def commandTablesEncode (c : Config) : Bool :=
  allBytes.all fun b => encodes c.pins (lutRead c .cmdSet b) (lutRead c .cmdClr b) (cmdWord b)

/-- (3) of 10_state.md R40: every colour-table entry encodes `PALETTE(i)`. -/
def colourTablesEncode (c : Config) : Bool :=
  allBytes.all fun i => encodes c.pins (lutRead c .colSet i) (lutRead c .colClr i) (paletteOf c i)

/-- The ten configuration parts, in order (41_panel_init.md R172 item 2). -/
def configParts (q : InitSeq) : List (List Group) :=
  [q.powerControl, q.vcom, q.memoryAccess, q.pixelFormat, q.interfaceMode, q.frameRate, q.inversionControl,
   q.rgbInterface, q.imageFunction, q.adjustControl]

/-- The groups of `INIT_SEQ` in the order BEGIN sends them (41_panel_init.md R172, R175, R176). -/
def initGroups (q : InitSeq) : List Group := q.gamma1 :: q.gamma2 :: (configParts q).flatten

/-- The structure of 41_panel_init.md R172 items 1 and 2: each gamma group has exactly `GAMMA_LEN` parameters, each
configuration part has one or more groups. Items 3 and 4 speak of what the panel does (notes/assumptions/16.md). -/
def initSeqStructured (q : InitSeq) : Bool :=
  q.gamma1.params.length == gammaLen && q.gamma2.params.length == gammaLen && (configParts q).all fun p => !p.isEmpty

/-- The configuration check: 10_state.md R40, 41_panel_init.md R172 and `UNROLL ≥ 1` (00_scope.md R9). -/
def configAdmitted (c : Config) : Bool :=
  pinsDistinct c.pins && initSeqStructured c.initSeq && decide (1 ≤ c.unroll)
  && commandTablesEncode c && colourTablesEncode c

/-- A configuration that passed the check: the only kind a machine runs on (10_state.md R40; notes/assumptions/1.md). -/
structure Board where
  cfg : Config
  ok  : configAdmitted cfg = true
deriving DecidableEq, Repr

end Sys2Proof.Machine
end

