-- ==== Sys2Proof/Machine/ExampleConfig.lean ====
section
/-! DEFINITION. Configuration EX of 95_test_vectors.md section 1, with `INIT_SEQ_EX`. It is an example, not the hardware's
(notes/assumptions/2.md); `State.reset` stands on it because every parameter needs some value there. -/

namespace Sys2Proof.Machine

/-- Line `k`, for the numerals of the pin map. -/
def exPins : Pins where
  d   := ⟨⟨[0, 1, 2, 3, 4, 5, 6, 7, 8, 9, 10, 11, 12, 13, 14, 15]⟩, rfl⟩
  dc  := 16
  wr  := 17
  rst := 18
  cs  := 19
  bl  := 20

/-- A 256-entry table from the value of each entry. -/
def tabulate {α : Type} (f : Byte → α) : Vector α lutN :=
  ⟨⟨allBytes.map f⟩, by simp [allBytes]⟩

/-- `PALETTE_EX(i) = (i << 8) | i`. -/
def exPalette (i : Byte) : BusWord := i ++ i

/-- `INIT_SEQ_EX`: the smallest structure 41_panel_init.md R172 admits, with arbitrary test bytes. -/
def exInitSeq : InitSeq where
  gamma1 := ⟨0x80, [0x00, 0x01, 0x02, 0x03, 0x04, 0x05, 0x06, 0x07, 0x08, 0x09, 0x0A, 0x0B, 0x0C, 0x0D, 0x0E]⟩
  gamma2 := ⟨0x81, [0x10, 0x11, 0x12, 0x13, 0x14, 0x15, 0x16, 0x17, 0x18, 0x19, 0x1A, 0x1B, 0x1C, 0x1D, 0x1E]⟩
  powerControl     := [⟨0x82, []⟩]
  vcom             := [⟨0x83, []⟩]
  memoryAccess     := [⟨0x84, []⟩]
  pixelFormat      := [⟨0x85, []⟩]
  interfaceMode    := [⟨0x86, []⟩]
  frameRate        := [⟨0x87, []⟩]
  inversionControl := [⟨0x88, []⟩]
  rgbInterface     := [⟨0x89, []⟩]
  imageFunction    := [⟨0x8A, []⟩]
  adjustControl    := [⟨0x8B, []⟩]

/-- Configuration EX: the tables as section 1 writes them, the default command bytes of 30_encoding.md R111, `UNROLL` 20, no
pads. EX gives no timing figures and no addresses: 0 here (notes/assumptions/2.md). -/
def exConfig : Config where
  pins    := exPins
  palette := tabulate exPalette
  cmdSet  := tabulate fun b => b.setWidth 32
  cmdClr  := tabulate fun b => 0x0002FF00#32 ||| (0xFF#8 ^^^ b).setWidth 32
  colSet  := tabulate fun i => i.setWidth 32 * 0x0101#32
  colClr  := tabulate fun i => 0x00020000#32 ||| (0xFF#8 ^^^ i).setWidth 32 * 0x0101#32
  opCaset  := 0x2A
  opPaset  := 0x2B
  opRamwr  := 0x2C
  opSlpout := 0x11
  opDispon := 0x29
  initSeq := exInitSeq
  unroll  := 20
  nopLow  := 0
  nopHigh := 0
  timing  := ⟨0, 0, 0, 0, 0⟩
  gpioSetAddr := 0
  gpioClrAddr := 0
  lineAddrs   := ⟨0, 0, 0, 0, 0⟩
  regBase     := 0

/-- Entry `b` of a tabulated table is its function's value at `b`. -/
theorem tabulate_getElem {α : Type} (f : Byte → α) (b : Byte) (h : b.toNat < lutN) : (tabulate f)[b.toNat]'h = f b := by
  simp [tabulate, allBytes]

/-- The command tables of EX encode `CMDWORD` (10_state.md R40 (2)). -/
theorem exConfig_commandTables : commandTablesEncode exConfig = true := by
  simp only [commandTablesEncode, lutRead, tableOf, exConfig, tabulate_getElem]
  decide +kernel

/-- The colour tables of EX encode `PALETTE_EX` (10_state.md R40 (3)). -/
theorem exConfig_colourTables : colourTablesEncode exConfig = true := by
  simp only [colourTablesEncode, lutRead, tableOf, paletteOf, exConfig, tabulate_getElem]
  decide +kernel

/-- Configuration EX passes the check of 10_state.md R40 and 41_panel_init.md R172. -/
theorem exConfig_admitted : configAdmitted exConfig = true := by
  have h : (pinsDistinct exConfig.pins && initSeqStructured exConfig.initSeq && decide (1 ≤ exConfig.unroll)) = true := by
    decide +kernel
  simp only [configAdmitted, h, exConfig_commandTables, exConfig_colourTables, Bool.and_self]

/-- The machine configured as EX. -/
def exBoard : Board := ⟨exConfig, exConfig_admitted⟩

end Sys2Proof.Machine
end

