-- ==== Sys2Proof/Machine/State.lean ====
section
/-! DEFINITION. Every piece of state the spec gives the block (10_state.md), the host's moves as plain data
(60_exceptions.md R262), the framebuffer space (20_memory.md R70, R71), and the state after reset (10_state.md R51). -/

namespace Sys2Proof.Machine

/-! ## The trace -/

/-- What the block emits, one event per primitive (10_state.md R47). -/
inductive Event where
  /-- `Set(m)`, emitted by `GpioSet(m)`. -/
  | set (m : Word)
  /-- `Clr(m)`, emitted by `GpioClr(m)`. -/
  | clr (m : Word)
  /-- `Line(p, v)`, emitted by `LineWrite(p, v)`. -/
  | line (p : Line) (v : Bool)
  /-- `Delay(n)`, emitted by `DelayMs(n)`. -/
  | delay (ms : Nat)
deriving DecidableEq, Repr

/-! ## Status -/

/-- The fault codes the block raises (60_exceptions.md R251). -/
inductive FaultCode where
  | illegalReq | notInit | reinit | badWindow | outOfRange | bufOob | busyViolation
deriving DecidableEq, Repr

/-- `STATUS` (10_state.md R43). `FAULT` is 1 exactly when a code is held, so `FAULT_CODE` is 0 when `FAULT = 0`
(notes/assumptions/14.md); the word the host reads is `statusWord` in Flags.lean. -/
structure Status where
  busy     : Bool
  initDone : Bool
  fault    : Option FaultCode
deriving DecidableEq, Repr

/-! ## Sequencer position (10_state.md R45) -/

/-- The steps of `Transfer` (40_bus_primitive.md R140, R145). -/
inductive CorePhase where
  | set | clr
  | padl (k : Nat)
  | wr
  | padh (k : Nat)
deriving DecidableEq, Repr

/-- The steps of `ByteTransfer`: the DC write, then the transfer core (40_bus_primitive.md R145, R146). -/
inductive TxPhase where
  | dc
  | core (p : CorePhase)
deriving DecidableEq, Repr

/-- The sequencer position, under the spec's phase names (10_state.md R45; a transfer's sub-phase stands inside the phase
that performs it, notes/assumptions/6.md). -/
inductive Seq where
  /-- `(IDLE, 0)` -/
  | idle
  /-- `(FAULTED, 0)` -/
  | faulted
  /-- `TX_DC` to `TX_PADH` of WRCMD and WRDATA (40_bus_primitive.md R145). -/
  | tx (p : TxPhase)
  /-- `B_WR`, `B_RST`, `B_D1`, `B_RLO`, `B_D2`, `B_RHI`, `B_D3` (41_panel_init.md R171). -/
  | bWr | bRst | bD1 | bRlo | bD2 | bRhi | bD3
  /-- `(B_SEQ, j)`: transfer `j` of `INIT_SEQ`. -/
  | bSeq (j : Nat) (p : TxPhase)
  /-- `(B_SLP, 0)`: the sleep-exit transfer. -/
  | bSlp (p : TxPhase)
  /-- `(B_D4, 0)` -/
  | bD4
  /-- `(B_ON, 0)`: the display-on transfer. -/
  | bOn (p : TxPhase)
  /-- `(W_TX, j)`: transfer `j` of SETWIN (42_addr_window.md R201). -/
  | wTx (j : Nat) (p : TxPhase)
  /-- `(W_DC, 0)` -/
  | wDc
  /-- `(R_WIN, j)`: the SETWIN phases inside RENDER (43_pixel_stream.md R221). -/
  | rWinTx (j : Nat) (p : TxPhase)
  | rWinDc
  /-- `(R_RD, n)` -/
  | rRd (n : Nat)
  /-- `(R_SET, n)`, `(R_CLR, n)`, `(R_PADL, n, k)`, `(R_WR, n)`, `(R_PADH, n, k)` -/
  | rPix (n : Nat) (p : CorePhase)
deriving DecidableEq, Repr

/-- The argument latches `A_OP` to `A_BUF` (10_state.md R46). -/
structure Latches where
  op   : BitVec 4
  byte : Byte
  x0   : Coord
  y0   : Coord
  x1   : Coord
  y1   : Coord
  buf  : Word
deriving DecidableEq, Repr

/-! ## The framebuffer space -/

/-- The framebuffer space: the readable bytes by address. `BUFMEM` is the set of listed addresses; an unlisted address is
not readable, so it reads as nothing (20_memory.md R71; notes/assumptions/9.md). -/
abbrev Memory := List Host.Cell

/-- Canonical form: addresses strictly rising, each a 32-bit address (20_memory.md R70, R72). -/
def Memory.wf : Memory → Bool
  | [] => true
  | [c] => decide (c.1 < 2 ^ 32)
  | c :: d :: m => decide (c.1 < d.1) && Memory.wf (d :: m)

/-! ## The host's moves -/

/-- A move of the host, or of another agent at the GPIO port (60_exceptions.md R262; notes/assumptions/5.md). -/
inductive HostMove where
  /-- The host does nothing; the block performs its next primitive. -/
  | wait
  /-- `WAIT`: the host reads `STATUS` until `BUSY = 0`; the block goes on meanwhile (30_encoding.md R113). How many reads the
  loop makes is open; they are not listed in `readback` (DESIGN CHOICE, notes/assumptions/22.md). -/
  | waitIdle
  /-- A read of `bytes` bytes at absolute address `addr`. -/
  | read (addr bytes : Nat)
  /-- A write of `bytes` bytes at absolute address `addr`. -/
  | write (addr bytes : Nat) (value : Word)
  /-- A write of `REQ0` after which the host makes no move until `BUSY = 0`: the request runs to its end in one step
  (60_exceptions.md R256; notes/assumptions/6.md). -/
  | call (value : Word)
  /-- The host asserts block reset (70_reset_and_hazards.md R280, R281). -/
  | blockReset
  /-- Power-on reset (70_reset_and_hazards.md R280). -/
  | powerOn
  /-- The host makes framebuffer address `a` readable with byte `v`, or changes its byte. -/
  | provide (a : Word) (v : Byte)
  /-- The host takes framebuffer address `a` out of `BUFMEM`. -/
  | withdraw (a : Word)
  /-- Another agent sets and then clears lines of the GPIO port (20_memory.md R85). -/
  | otherAgent (set clr : Word)
deriving DecidableEq, Repr

/-! ## Other agents' writes -/

/-- A write of another agent: how many events the trace held then, and the masks it set and cleared (20_memory.md R85). -/
structure OtherWrite where
  index : Nat
  set   : Word
  clr   : Word
deriving DecidableEq, Repr

/-! ## State -/

/-- The whole state of the block. -/
structure State where
  /-- The configuration, written by no step (10_state.md R35; notes/assumptions/1.md). -/
  cfg      : Board
  /-- `OUT` (10_state.md R30). -/
  out      : Word
  /-- `REQ0` to `REQ3` (10_state.md R41, R42). -/
  req0     : Word
  req1     : Word
  req2     : Word
  req3     : Word
  /-- `STATUS` (10_state.md R43). -/
  status   : Status
  /-- `seq` (10_state.md R45). -/
  seq      : Seq
  /-- `A_OP` to `A_BUF` (10_state.md R46). -/
  latches  : Latches
  /-- `N`, the pixel count (10_state.md R46). -/
  total    : Nat
  /-- `n`, the pixels sent so far (10_state.md R46). -/
  sent     : Nat
  /-- The pixel index between its read and its writes (20_memory.md R73; notes/assumptions/13.md). -/
  pixel    : Byte
  /-- The trace, oldest event first (10_state.md R47). -/
  trace    : List Event
  /-- `OUT` when the trace was last empty: the model's own (notes/assumptions/23.md). -/
  startOut : Word
  /-- The other agents' writes since the trace was last empty, oldest first: the model's own (20_memory.md R85;
  notes/assumptions/29.md). -/
  others   : List OtherWrite
  /-- `seq` at the first fault (60_exceptions.md R251; notes/assumptions/12.md). -/
  faultAt  : Option Seq
  /-- The framebuffer space (20_memory.md R70). -/
  fb       : Memory
  /-- The host's pending moves, next one first: the model's own (notes/assumptions/5.md). -/
  schedule : List HostMove
  /-- The words the host has read, oldest first: the model's own (notes/assumptions/22.md). -/
  readback : List Word
  /-- How many free values have been drawn: the model's own (notes/assumptions/4.md). -/
  draws    : Nat
deriving DecidableEq, Repr

/-- Why the machine stops with no next state. The spec's own faults are no stops: `raise Fault` leads to a next state
(60_exceptions.md R252). -/
inductive Fault where
  /-- Raised by the sequencer where its position belongs to no request in progress: a state no run reaches
  (notes/assumptions/25.md). Safe. -/
  | sequencerLost
deriving DecidableEq, Repr

/-- Why a step is refused. -/
inductive Refusal where
  /-- Raised by exec's arm of an instruction without a meaning. Safe. -/
  | notModelled (mnemonic : String)
  /-- Raised by a host access that is not an aligned 32-bit word: "a model refuses any other access width or alignment"
  (10_state.md R41). Safe. -/
  | notAlignedWord
  /-- Raised by a host access outside the register block, which reaches no register of the block (10_state.md R41;
  notes/assumptions/11.md). Safe. -/
  | outsideRegisterBlock
  /-- Raised by a change of the running RENDER's buffer: the host has no such move (60_exceptions.md R262). Unsafe: a
  listed blind spot (93_implementation_defined.md I9 (a); notes/assumptions/10.md). -/
  | bufferInUse
  /-- Raised by another agent's write to one of the 21 signal lines (20_memory.md R85). Unsafe: a listed blind spot
  (93_implementation_defined.md I9 (c); notes/assumptions/10.md). -/
  | signalLineOwned
  /-- Raised by a launch with a configuration that fails the check: "the model defines no run for it" (10_state.md R40).
  Safe. -/
  | configurationNotAdmitted
deriving DecidableEq, Repr

/-- `STATUS` after a block reset: 0 (10_state.md R51). -/
def Status.reset : Status := ⟨false, false, none⟩

/-- The latches of `State.reset`: the spec leaves them unspecified; all 0 (DESIGN CHOICE, notes/assumptions/4.md). -/
def Latches.reset : Latches := ⟨0, 0, 0, 0, 0, 0, 0⟩

/-- The machine right after reset (10_state.md R51). OUT, which the spec leaves open, is 0 (DESIGN CHOICE,
notes/assumptions/3.md); the configuration is EX (DESIGN CHOICE, notes/assumptions/2.md). -/
def State.reset : State where
  cfg      := exBoard
  out      := 0
  req0     := 0
  req1     := 0
  req2     := 0
  req3     := 0
  status   := Status.reset
  seq      := .idle
  latches  := Latches.reset
  total    := 0
  sent     := 0
  pixel    := 0
  trace    := []
  startOut := 0
  others   := []
  faultAt  := none
  fb       := []
  schedule := []
  readback := []
  draws    := 0

end Sys2Proof.Machine
end

