-- ==== Sys2Proof/Machine/Flags.lean ====
section
/-! DEFINITION. The status flags (10_state.md R43, R50): the block has no condition codes. The word the host reads, and the
updates of BUSY, INIT_DONE and FAULT. -/

namespace Sys2Proof.Machine

/-- `FAULT_CODE` of a fault (60_exceptions.md R251). -/
def faultNumber : FaultCode → BitVec 4
  | .illegalReq => 1
  | .notInit => 2
  | .reinit => 3
  | .badWindow => 4
  | .outOfRange => 5
  | .bufOob => 6
  | .busyViolation => 7

/-- The `FAULT_CODE` field: 0 when `FAULT = 0` (10_state.md R43). -/
def faultField : Option FaultCode → BitVec 4
  | none => 0
  | some c => faultNumber c

/-- The 32-bit word a read of `STATUS` returns: BUSY in bit 0, INIT_DONE in bit 1, FAULT in bit 2, FAULT_CODE in bits 7:4,
every other bit 0 (10_state.md R43). -/
def statusWord (t : Status) : Word :=
  (BitVec.ofBool t.busy).setWidth 32
  ||| (BitVec.ofBool t.initDone).setWidth 32 <<< 1
  ||| (BitVec.ofBool t.fault.isSome).setWidth 32 <<< 2
  ||| (faultField t.fault).setWidth 32 <<< 4

/-- `STATUS.BUSY <- 1` (60_exceptions.md R254). -/
def Status.start (t : Status) : Status := { t with busy := true }

/-- `STATUS.BUSY <- 0` at the end of a request (40_bus_primitive.md R150). -/
def Status.finish (t : Status) : Status := { t with busy := false }

/-- `STATUS.INIT_DONE <- 1 ; STATUS.BUSY <- 0`, the end of BEGIN (41_panel_init.md R170). -/
def Status.finishInit (t : Status) : Status := { t with busy := false, initDone := true }

/-- The `STATUS` part of `raise Fault(c)`: the first code is kept, BUSY falls (60_exceptions.md R252). -/
def Status.raise (c : FaultCode) (t : Status) : Status :=
  { t with busy := false, fault := some (t.fault.getD c) }

end Sys2Proof.Machine
end

