-- ==== Sys2Proof/Machine/Operands.lean ====
section
/-! DEFINITION. Operand assembly and operand arithmetic: the argument latches (30_encoding.md R102, 10_state.md R46), the
big-endian split of a coordinate (30_encoding.md R110), the transfers of INIT_SEQ and of a window, the pixel count
(43_pixel_stream.md R222), the pixel address and its read (20_memory.md R71, R72), and where a pixel belongs
(43_pixel_stream.md R224). -/

namespace Sys2Proof.Machine

/-! ## Latches -/

/-- The descriptor the four request registers hold (10_state.md R42). -/
def State.descriptor (s : State) : Descriptor := ⟨s.req0, s.req1, s.req2, s.req3⟩

/-- The latches as Start copies them from a descriptor (60_exceptions.md R254). -/
def latchDescriptor (d : Descriptor) : Latches := ⟨d.op, d.byte, d.x0, d.y0, d.x1, d.y1, d.buf⟩

/-- The latches when request `i` starts from registers `d`: the request's own operands, and for words it does not use what
the registers hold (60_exceptions.md R254). Where `d` decodes to `i` this is `latchDescriptor d`. -/
def latchRequest (i : Instr) (d : Descriptor) : Latches :=
  let l := { latchDescriptor d with op := opOf i, byte := byteOf i }
  match i with
  | .begin => l
  | .setwin x0 y0 x1 y1 => { l with x0 := x0, y0 := y0, x1 := x1, y1 := y1 }
  | .render x0 y0 x1 y1 buf => { l with x0 := x0, y0 := y0, x1 := x1, y1 := y1, buf := buf }
  | .wrcmd _ => l
  | .wrdata _ => l

/-! ## Transfers -/

/-- The high byte of a coordinate, `v[15:8]`, sent first (30_encoding.md R110). -/
def coordHigh (v : Coord) : Byte := v.extractLsb' 8 8

/-- The low byte of a coordinate, `v[7:0]`, sent second (30_encoding.md R110). -/
def coordLow (v : Coord) : Byte := v.extractLsb' 0 8

/-- One byte transfer to come: its DC level (low for command, high for data) and its byte (40_bus_primitive.md R146). -/
abbrev ByteTx := Bool × Byte

/-- A command transfer (30_encoding.md R107). -/
def commandTx (c : Byte) : ByteTx := (false, c)

/-- A parameter transfer (30_encoding.md R108). -/
def paramTx (p : Byte) : ByteTx := (true, p)

/-- A coordinate as two parameter transfers, high byte first (30_encoding.md R110). -/
def coordTxs (v : Coord) : List ByteTx := [paramTx (coordHigh v), paramTx (coordLow v)]

/-- A group: its command transfer, then its parameter transfers in order (41_panel_init.md R175, R176). -/
def groupTxs (g : Group) : List ByteTx := commandTx g.command :: g.params.map paramTx

/-- The transfers of `INIT_SEQ`, in order (41_panel_init.md R170). -/
def initTxs (c : Config) : List ByteTx := (initGroups c.initSeq).flatMap groupTxs

/-- The eleven transfers of SETWIN, in order (42_addr_window.md R200, R202, R204, R205). -/
def windowTxs (c : Config) (l : Latches) : List ByteTx :=
  commandTx c.opCaset :: coordTxs l.x0 ++ coordTxs l.x1
  ++ commandTx c.opPaset :: coordTxs l.y0 ++ coordTxs l.y1
  ++ [commandTx c.opRamwr]

/-! ## Windows and pixels -/

/-- `W = A_X1 - A_X0 + 1` (43_pixel_stream.md R222). -/
def windowWidth (l : Latches) : Nat := l.x1.toNat - l.x0.toNat + 1

/-- `H = A_Y1 - A_Y0 + 1` (43_pixel_stream.md R222). -/
def windowHeight (l : Latches) : Nat := l.y1.toNat - l.y0.toNat + 1

/-- `N = W × H`, exact (00_scope.md R11, 43_pixel_stream.md R222). -/
def pixelCount (l : Latches) : Nat := windowWidth l * windowHeight l

/-- `BAD_WINDOW`'s condition: `A_X0 > A_X1` or `A_Y0 > A_Y1` (42_addr_window.md R209). -/
def windowDisordered (l : Latches) : Bool := decide (l.x1.toNat < l.x0.toNat) || decide (l.y1.toNat < l.y0.toNat)

/-- `OUT_OF_RANGE`'s condition: `A_X1 > 479` or `A_Y1 > 319` (42_addr_window.md R209). -/
def windowOffPanel (l : Latches) : Bool := decide (panelW - 1 < l.x1.toNat) || decide (panelH - 1 < l.y1.toNat)

/-- The column pixel `n` belongs at (43_pixel_stream.md R224); a premise for claims about the panel, used by no step. -/
def pixelColumn (l : Latches) (n : Nat) : Nat := l.x0.toNat + n % windowWidth l

/-- The row pixel `n` belongs at (43_pixel_stream.md R224); a premise for claims about the panel, used by no step. -/
def pixelRow (l : Latches) (n : Nat) : Nat := l.y0.toNat + n / windowWidth l

/-! ## The framebuffer -/

/-- The byte at an address, or nothing where the address is not in `BUFMEM` (20_memory.md R71). -/
def Memory.read : Memory → Nat → Option Byte
  | [], _ => none
  | c :: m, a => if c.1 = a then some c.2 else Memory.read m a

/-- The memory with byte `v` at address `a`, in canonical form. -/
def Memory.write : Memory → Nat → Byte → Memory
  | [], a, v => [(a, v)]
  | c :: m, a, v =>
    if a < c.1 then (a, v) :: c :: m
    else if a = c.1 then (a, v) :: m
    else c :: Memory.write m a v

/-- The memory without address `a`. -/
def Memory.erase : Memory → Nat → Memory
  | [], _ => []
  | c :: m, a => if c.1 = a then m else c :: Memory.erase m a

/-- The memory that holds the given bytes and no other; of two bytes for one address the later one counts. -/
def Memory.ofBytes (l : List (Word × Byte)) : Memory := l.foldl (fun m p => m.write p.1.toNat p.2) []

/-- The address of pixel `n`: `A_BUF + n`, without wrap (20_memory.md R71, R72). -/
def pixelAddress (l : Latches) (n : Nat) : Nat := l.buf.toNat + n

/-- `MemRead(A_BUF + n, 1)`: nothing where the address exceeds `2^32 - 1` or is not in `BUFMEM` (20_memory.md R71, R72;
43_pixel_stream.md R220). -/
def readPixel (m : Memory) (l : Latches) (n : Nat) : Option Byte :=
  if 2 ^ 32 - 1 < pixelAddress l n then none else m.read (pixelAddress l n)

end Sys2Proof.Machine
end

