-- ==== Sys2Proof/Machine/Ops.lean ====
section
/-! DEFINITION. The named operations every request is made of: the GPIO primitives and the trace (00_scope.md R12,
20_memory.md R76, R77), the transfer core and the byte transfer (40_bus_primitive.md R140, R146), completion, `raise Fault`
and the way back from it, a block reset (60_exceptions.md R252, R253; 70_reset_and_hazards.md R280), and request start with
its checks (60_exceptions.md R254). -/

namespace Sys2Proof.Machine

/-- The configuration of the machine. -/
def State.config (s : State) : Config := s.cfg.cfg

/-! ## Primitives: each emits exactly one event (10_state.md R47) -/

/-- `emit(e)`: append `e` to the trace (00_scope.md R12). -/
def emit (e : Event) (s : State) : State := { s with trace := s.trace ++ [e] }

/-- `GpioSet(m)`: `OUT <- OUT | m` as one event (20_memory.md R76). -/
def gpioSet (m : Word) (s : State) : State := emit (.set m) { s with out := s.out ||| m }

/-- `GpioClr(m)`: `OUT <- OUT & ~m` as one event (20_memory.md R76). -/
def gpioClr (m : Word) (s : State) : State := emit (.clr m) { s with out := s.out &&& ~~~m }

/-- `LineWrite(p, v)`: `OUT[p] <- v` as one event, every other line unchanged (20_memory.md R77). -/
def lineWrite (p : Line) (v : Bool) (s : State) : State := emit (.line p v) { s with out := withLine s.out p v }

/-- `DelayMs(n)`: emits `Delay(n)` and changes no line (40_bus_primitive.md R144). -/
def delayMs (n : Nat) (s : State) : State := emit (.delay n) s

/-- `Pad(k)`: `k` idle steps; no event, no change (40_bus_primitive.md R142). -/
def pad (_k : Nat) (s : State) : State := s

/-! ## Transfers -/

/-- A pair of tables: the command LUT or the colour LUT (10_state.md R33, R34). -/
inductive LutPair where
  | command | colour
deriving DecidableEq, Repr

/-- The pair's set table. -/
def LutPair.setTable : LutPair → Lut
  | .command => .cmdSet
  | .colour => .colSet

/-- The pair's clear table. -/
def LutPair.clrTable : LutPair → Lut
  | .command => .cmdClr
  | .colour => .colClr

/-- `Transfer(SETT, CLRT, i)` (40_bus_primitive.md R140). -/
def transfer (t : LutPair) (i : Byte) (s : State) : State :=
  let c := s.config
  let s := gpioSet (lutRead c t.setTable i) s
  let s := gpioClr (lutRead c t.clrTable i) s
  let s := pad c.nopLow s
  let s := lineWrite c.pins.wr true s
  pad c.nopHigh s

/-- `ByteTransfer(dc, b)`: the DC write, strictly before the transfer begins (40_bus_primitive.md R146). -/
def byteTransfer (t : ByteTx) (s : State) : State :=
  transfer .command t.2 (lineWrite s.config.pins.dc t.1 s)

/-- Byte transfers in list order, nothing between them (41_panel_init.md R176). -/
def sendAll : List ByteTx → State → State
  | [], s => s
  | t :: ts, s => sendAll ts (byteTransfer t s)

/-! ## The end of a request -/

/-- `STATUS.BUSY <- 0 ; seq <- (IDLE, 0)` (40_bus_primitive.md R150). -/
def complete (s : State) : State := { s with status := s.status.finish, seq := .idle }

/-- `STATUS.INIT_DONE <- 1 ; STATUS.BUSY <- 0 ; seq <- (IDLE, 0)` (41_panel_init.md R170). -/
def completeInit (s : State) : State := { s with status := s.status.finishInit, seq := .idle }

/-! ## Taking a fault, and the only way back from one -/

/-- `raise Fault(c)`: the first code is kept, BUSY falls, `seq` goes to `(FAULTED, 0)`, no event, every line holds
(60_exceptions.md R252). The position at the first fault is recorded beside the code (R251). -/
def raise (c : FaultCode) (s : State) : State :=
  { s with status := s.status.raise c, seq := .faulted,
           faultAt := if s.status.fault.isSome then s.faultAt else some s.seq }

/-- The latches after a reset move: free values (10_state.md R51, "unspecified"; notes/assumptions/4.md). -/
def freeLatches (k : Nat) : Latches where
  op   := (Config.freeWord k).setWidth 4
  byte := (Config.freeWord (k + 1)).setWidth 8
  x0   := (Config.freeWord (k + 2)).setWidth 16
  y0   := (Config.freeWord (k + 3)).setWidth 16
  x1   := (Config.freeWord (k + 4)).setWidth 16
  y1   := (Config.freeWord (k + 5)).setWidth 16
  buf  := Config.freeWord (k + 6)

/-- A block reset: the values of 10_state.md R51, no event, every line holds (70_reset_and_hazards.md R280, R281). There is
no other return from a fault (60_exceptions.md R253). -/
def blockReset (s : State) : State :=
  { s with
    req0 := 0, req1 := 0, req2 := 0, req3 := 0
    status := Status.reset, seq := .idle
    latches := freeLatches s.draws
    total := Config.freeCount s.draws, sent := Config.freeCount (s.draws + 1)
    pixel := (Config.freeWord (s.draws + 7)).setWidth 8
    trace := [], startOut := s.out, others := [], faultAt := none
    draws := s.draws + 8 }

/-- A power-on reset: as a block reset, with OUT whatever the pin-setup collaborator left, a draw
(70_reset_and_hazards.md R280, 10_state.md R51). -/
def powerOn (s : State) : State :=
  let v := Config.freeWord s.draws
  blockReset { s with out := v, draws := s.draws + 1 }

/-! ## Request start (60_exceptions.md R254, R255) -/

/-- The first phase of a request (40_bus_primitive.md R145, 41_panel_init.md R171, 42_addr_window.md R201,
43_pixel_stream.md R221). -/
def firstPhase : Instr → Seq
  | .begin => .bWr
  | .setwin _ _ _ _ => .wTx 0 .dc
  | .render _ _ _ _ _ => .rWinTx 0 .dc
  | .wrcmd _ => .tx .dc
  | .wrdata _ => .tx .dc

/-- BEGIN's start check: `REINIT` when `INIT_DONE = 1` (60_exceptions.md R254). -/
def checkBegin (s : State) : Option FaultCode :=
  if s.status.initDone then some .reinit else none

/-- Every other request's start check: `NOT_INIT` when `INIT_DONE = 0` (60_exceptions.md R254). -/
def checkInit (s : State) : Option FaultCode :=
  if s.status.initDone then none else some .notInit

/-- The start checks of SETWIN and RENDER: `NOT_INIT`, then `BAD_WINDOW`, then `OUT_OF_RANGE` (60_exceptions.md R254,
R255). -/
def checkWindow (s : State) : Option FaultCode :=
  match checkInit s with
  | some c => some c
  | none =>
    if windowDisordered s.latches then some .badWindow
    else if windowOffPanel s.latches then some .outOfRange
    else none

/-- The start checks of a decoded request, in the order of 60_exceptions.md R255. -/
def startFault : Instr → State → Option FaultCode
  | .begin => checkBegin
  | .setwin _ _ _ _ => checkWindow
  | .render _ _ _ _ _ => checkWindow
  | .wrcmd _ => checkInit
  | .wrdata _ => checkInit

/-- How the presentation of a request ends: turned away with no event, or in progress at its first phase. -/
inductive Started where
  | turnedAway (s : State)
  | running (s : State)

/-- Request `i` is presented. While BUSY = 1 that is a concurrent request (60_exceptions.md R256); while a fault is held
nothing starts (R253); otherwise Start runs: latches, checks, `BUSY <- 1`, first phase (R254; notes/assumptions/26.md). -/
def start (i : Instr) (s : State) : Started :=
  if s.status.busy then .turnedAway (raise .busyViolation s)
  else if s.status.fault.isSome then .turnedAway s
  else
    let s := { s with latches := latchRequest i s.descriptor }
    match startFault i s with
    | some c => .turnedAway (raise c s)
    | none => .running { s with status := s.status.start, seq := firstPhase i }

/-- An illegal descriptor is presented: as `start`, with the check of 30_encoding.md R105 failing first
(60_exceptions.md R254, R255). -/
def startIllegal (s : State) : State :=
  if s.status.busy then raise .busyViolation s
  else if s.status.fault.isSome then s
  else raise .illegalReq { s with latches := latchDescriptor s.descriptor }

/-- A whole request: start it and, if it runs, perform `body` to its end. -/
def runRequest (i : Instr) (body : State → State) (s : State) : Host.Outcome State Fault Refusal :=
  match start i s with
  | .turnedAway t => .next t
  | .running t => .next (body t)

end Sys2Proof.Machine
end

