-- ==== Sys2Proof/Machine/AddrWindow.lean ====
section
/-! DEFINITION. The Addressing-Window Setter: SETWIN (42_addr_window.md). -/

namespace Sys2Proof.Machine

/-- The body of SETWIN without its completion line: the eleven transfers, then DC high and no transfer (42_addr_window.md
R200, R206). -/
def setWindowBody (s : State) : State :=
  let s := sendAll (windowTxs s.config s.latches) s
  lineWrite s.config.pins.dc true s

/-- `SETWIN x0, y0, x1, y1` (42_addr_window.md R200). -/
def execSetwin (x0 y0 x1 y1 : Coord) (s : State) : Host.Outcome State Fault Refusal :=
  runRequest (.setwin x0 y0 x1 y1) (fun s => complete (setWindowBody s)) s

end Sys2Proof.Machine
end

