-- ==== Sys2Proof/Machine/BusPrimitive.lean ====
section
/-! DEFINITION. The Bus Primitive's requests, WRCMD and WRDATA (40_bus_primitive.md R150, R151). -/

namespace Sys2Proof.Machine

/-- `WRCMD byte`: write one command byte (40_bus_primitive.md R150). -/
def execWrcmd (byte : Byte) (s : State) : Host.Outcome State Fault Refusal :=
  runRequest (.wrcmd byte) (fun s => complete (byteTransfer (false, s.latches.byte) s)) s

/-- `WRDATA byte`: write one data or parameter byte (40_bus_primitive.md R151). -/
def execWrdata (byte : Byte) (s : State) : Host.Outcome State Fault Refusal :=
  runRequest (.wrdata byte) (fun s => complete (byteTransfer (true, s.latches.byte) s)) s

end Sys2Proof.Machine
end

