-- ==== Sys2Proof/Machine/PanelInit.lean ====
section
/-! DEFINITION. The Panel Initializer: BEGIN (41_panel_init.md). -/

namespace Sys2Proof.Machine

/-- Step 1: WR high, then RST high (41_panel_init.md R173). -/
def idleHigh (s : State) : State :=
  let s := lineWrite s.config.pins.wr true s
  lineWrite s.config.pins.rst true s

/-- Step 2: the reset pulse (41_panel_init.md R174). -/
def resetPulse (s : State) : State :=
  let s := delayMs tRstPre s
  let s := lineWrite s.config.pins.rst false s
  let s := delayMs tRstLow s
  let s := lineWrite s.config.pins.rst true s
  delayMs tRstPost s

/-- Steps 3 and 4: the groups of `INIT_SEQ` in list order (41_panel_init.md R175, R176). -/
def sendInitSeq (s : State) : State := sendAll (initTxs s.config) s

/-- Step 5: sleep exit and its wait (41_panel_init.md R177). -/
def sleepExit (s : State) : State :=
  delayMs tSlpout (byteTransfer (commandTx s.config.opSlpout) s)

/-- Step 6: display on (41_panel_init.md R178). -/
def displayOn (s : State) : State := byteTransfer (commandTx s.config.opDispon) s

/-- `BEGIN`: one-time panel initialization (41_panel_init.md R170). -/
def execBegin (s : State) : Host.Outcome State Fault Refusal :=
  runRequest .begin
    (fun s => completeInit (displayOn (sleepExit (sendInitSeq (resetPulse (idleHigh s)))))) s

end Sys2Proof.Machine
end

