-- ==== Sys2Proof/Machine/PixelStream.lean ====
section
/-! DEFINITION. The Pixel-Streaming Engine: RENDER (43_pixel_stream.md), as the single loop, and the batched loop of the
reference design beside it (R223). -/

namespace Sys2Proof.Machine

/-- `N <- W × H ; n <- 0` (43_pixel_stream.md R220 step 2, R222). -/
def openStream (s : State) : State := { s with total := pixelCount s.latches, sent := 0 }

/-- The read of pixel `n` succeeded: its index is held (20_memory.md R73). -/
def holdPixel (i : Byte) (s : State) : State := { s with pixel := i }

/-- `n <- n + 1` (43_pixel_stream.md R220). -/
def countPixel (s : State) : State := { s with sent := s.sent + 1 }

/-- One turn of the loop: the read at position `(R_RD, n)`, the transfer through the colour LUT with no DC write, the count.
An unreadable byte faults with `BUF_OOB` and ends the stream (43_pixel_stream.md R220, R225, R229). -/
def sendPixel (s : State) : Except State State :=
  let s := { s with seq := .rRd s.sent }
  match readPixel s.fb s.latches s.sent with
  | none => .error (raise .bufOob s)
  | some i => .ok (countPixel (transfer .colour i (holdPixel i s)))

/-- `k` turns of the loop, stopping at the first fault. -/
def sendPixels : Nat → State → Except State State
  | 0, s => .ok s
  | k + 1, s =>
    match sendPixel s with
    | .error t => .error t
    | .ok t => sendPixels k t

/-- `q` batches of `u` pixels each, stopping at the first fault (43_pixel_stream.md R223). -/
def sendBatches (u : Nat) : Nat → State → Except State State
  | 0, s => .ok s
  | q + 1, s =>
    match sendPixels u s with
    | .error t => .error t
    | .ok t => sendBatches u q t

/-- The reference design's loop for `k` pixels: `k / u` batches of `u` pixels, then `k % u` single pixels
(43_pixel_stream.md R223). -/
def sendBatched (u k : Nat) (s : State) : Except State State :=
  match sendBatches u (k / u) s with
  | .error t => .error t
  | .ok t => sendPixels (k % u) t

/-- The end of a stream: a faulted stream stays as the fault left it, a finished one completes (43_pixel_stream.md R220). -/
def closeStream : Except State State → State
  | .error t => t
  | .ok t => complete t

/-- The body of RENDER by the single loop, which every grouping into batches equals (43_pixel_stream.md R220, R223;
notes/assumptions/27.md). -/
def renderBody (s : State) : State :=
  let s := openStream (setWindowBody s)
  closeStream (sendPixels s.total s)

/-- The body of RENDER by the reference design's batches of `UNROLL` pixels (43_pixel_stream.md R223). -/
def renderBodyBatched (s : State) : State :=
  let s := openStream (setWindowBody s)
  closeStream (sendBatched s.config.unroll s.total s)

/-- `RENDER x1, y1, x2, y2, buf` (43_pixel_stream.md R220). -/
def execRender (x0 y0 x1 y1 : Coord) (buf : Word) (s : State) : Host.Outcome State Fault Refusal :=
  runRequest (.render x0 y0 x1 y1 buf) renderBody s

end Sys2Proof.Machine
end

