-- ==== Sys2Proof/Machine/Dispatch.lean ====
section
/-! DEFINITION. One arm per request: which meaning each constructor of Instr has. -/

namespace Sys2Proof.Machine

/-- Request `i`, performed from its presentation to its end. -/
def exec (i : Instr) (s : State) : Host.Outcome State Fault Refusal :=
  match i with
  | .begin => Sys2Proof.Machine.execBegin s
  | .setwin x0 y0 x1 y1 => Sys2Proof.Machine.execSetwin x0 y0 x1 y1 s
  | .render x0 y0 x1 y1 buf => Sys2Proof.Machine.execRender x0 y0 x1 y1 buf s
  | .wrcmd byte => Sys2Proof.Machine.execWrcmd byte s
  | .wrdata byte => Sys2Proof.Machine.execWrdata byte s

end Sys2Proof.Machine
end

