-- ==== Sys2Proof/Machine/Sequencer.lean ====
section
/-! DEFINITION. The sequencer, event by event (10_state.md R45): one step performs the primitive at `seq` and moves `seq` to
the next position, as 40_bus_primitive.md R145, 41_panel_init.md R171, 42_addr_window.md R201 and 43_pixel_stream.md R221
list them. The last primitive's step also completes the request (notes/assumptions/6.md). -/

namespace Sys2Proof.Machine

/-- The step after the clear write: the low-side pads, or WR high where there are none (40_bus_primitive.md R145). -/
def afterClr (c : Config) : CorePhase := if c.nopLow = 0 then .wr else .padl 0

/-- The step after the WR-high write: the high-side pads, or the end of the transfer. -/
def afterWr (c : Config) : Option CorePhase := if c.nopHigh = 0 then none else some (.padh 0)

/-- One step of a transfer through table pair `t`, and the step after it; nothing after the last (40_bus_primitive.md R140,
R145). -/
def stepCore (t : LutPair) (i : Byte) (p : CorePhase) (s : State) : State × Option CorePhase :=
  let c := s.config
  match p with
  | .set => (gpioSet (lutRead c t.setTable i) s, some .clr)
  | .clr => (gpioClr (lutRead c t.clrTable i) s, some (afterClr c))
  | .padl k => (pad 1 s, some (if k + 1 < c.nopLow then .padl (k + 1) else .wr))
  | .wr => (lineWrite c.pins.wr true s, afterWr c)
  | .padh k => (pad 1 s, if k + 1 < c.nopHigh then some (.padh (k + 1)) else none)

/-- One step of a byte transfer, and the step after it (40_bus_primitive.md R145, R146). -/
def stepTx (t : ByteTx) (p : TxPhase) (s : State) : State × Option TxPhase :=
  match p with
  | .dc => (lineWrite s.config.pins.dc t.1 s, some (.core .set))
  | .core q =>
    let r := stepCore .command t.2 q s
    (r.1, r.2.map .core)

/-- The sequencer moves to `q`. -/
def goto (q : Seq) (s : State) : State := { s with seq := q }

/-- A step of a transfer is done: go to the next sub-phase under `at_`, or, where the transfer ended, on by `fin`. -/
def continueTx {α : Type} (at_ : α → Seq) (fin : State → State) (r : State × Option α) : State :=
  match r.2 with
  | some q => goto (at_ q) r.1
  | none => fin r.1

/-- A step of transfer `j` of a list: on to transfer `j + 1`, or after the last by `fin`. -/
def stepListTx (l : List ByteTx) (at_ : Nat → TxPhase → Seq) (fin : State → State) (j : Nat) (p : TxPhase) (s : State) :
    Host.Outcome State Fault Refusal :=
  match l[j]? with
  | none => .fault .sequencerLost
  | some t =>
    .next (continueTx (at_ j) (fun s => if j + 1 < l.length then goto (at_ (j + 1) .dc) s else fin s) (stepTx t p s))

/-- After the pixel stream opens or a pixel is counted: on to the next read, or the request completes
(43_pixel_stream.md R221). -/
def nextPixel (s : State) : State :=
  if s.sent < s.total then goto (.rRd s.sent) s else complete s

/-- One step of the block: the primitive at `seq` (10_state.md R45). While no request is in progress the block emits nothing
and every line holds (60_exceptions.md R253, 92_eei_decisions.md D33). -/
def advance (s : State) : Host.Outcome State Fault Refusal :=
  let c := s.config
  if s.status.busy = false then .next s
  else match s.seq with
    | .idle => .fault .sequencerLost
    | .faulted => .fault .sequencerLost
    | .tx p => .next (continueTx .tx complete (stepTx (s.latches.op == 5, s.latches.byte) p s))
    | .bWr => .next (goto .bRst (lineWrite c.pins.wr true s))
    | .bRst => .next (goto .bD1 (lineWrite c.pins.rst true s))
    | .bD1 => .next (goto .bRlo (delayMs tRstPre s))
    | .bRlo => .next (goto .bD2 (lineWrite c.pins.rst false s))
    | .bD2 => .next (goto .bRhi (delayMs tRstLow s))
    | .bRhi => .next (goto .bD3 (lineWrite c.pins.rst true s))
    | .bD3 => .next (goto (.bSeq 0 .dc) (delayMs tRstPost s))
    | .bSeq j p => stepListTx (initTxs c) .bSeq (goto (.bSlp .dc)) j p s
    | .bSlp p => .next (continueTx .bSlp (goto .bD4) (stepTx (commandTx c.opSlpout) p s))
    | .bD4 => .next (goto (.bOn .dc) (delayMs tSlpout s))
    | .bOn p => .next (continueTx .bOn completeInit (stepTx (commandTx c.opDispon) p s))
    | .wTx j p => stepListTx (windowTxs c s.latches) .wTx (goto .wDc) j p s
    | .wDc => .next (complete (lineWrite c.pins.dc true s))
    | .rWinTx j p => stepListTx (windowTxs c s.latches) .rWinTx (goto .rWinDc) j p s
    | .rWinDc => .next (nextPixel (openStream (lineWrite c.pins.dc true s)))
    | .rRd _ =>
      match readPixel s.fb s.latches s.sent with
      | none => .next (raise .bufOob s)
      | some i => .next (goto (.rPix s.sent .set) (holdPixel i s))
    | .rPix n p =>
      .next (continueTx (.rPix n) (fun s => nextPixel (countPixel s)) (stepCore .colour s.pixel p s))

end Sys2Proof.Machine
end

