-- ==== Sys2Proof/Machine/HostPort.lean ====
section
/-! DEFINITION. The host's side: the register block (10_state.md R41 to R43), request start by a write to `REQ0`
(60_exceptions.md R254), the moves of the host and of other agents (R262), and the launch of a machine
(70_reset_and_hazards.md R283). -/

namespace Sys2Proof.Machine

/-- The register offset of an access, or why it is refused: only aligned 32-bit accesses inside the block's 64 bytes are
admitted (10_state.md R41; notes/assumptions/11.md). -/
def accessOffset (s : State) (addr bytes : Nat) : Except Refusal Nat :=
  let base := s.config.regBase.toNat
  if addr < base ∨ base + 0x40 ≤ addr then .error .outsideRegisterBlock
  else if bytes ≠ 4 ∨ (addr - base) % 4 ≠ 0 then .error .notAlignedWord
  else .ok (addr - base)

/-- What a read of the register at an offset returns; reserved offsets read 0 (10_state.md R41 to R43). -/
def registerAt (s : State) (off : Nat) : Word :=
  if off = 0x00 then s.req0
  else if off = 0x04 then s.req1
  else if off = 0x08 then s.req2
  else if off = 0x0C then s.req3
  else if off = 0x10 then statusWord s.status
  else 0

/-- A host read: no side effect but the word the host now has (10_state.md R42, R43; notes/assumptions/22.md). -/
def hostRead (addr bytes : Nat) (s : State) : Host.Outcome State Fault Refusal :=
  match accessOffset s addr bytes with
  | .error r => .refused r
  | .ok off => .next { s with readback := s.readback ++ [registerAt s off] }

/-- After a host write to `REQ1`, `REQ2` or `REQ3`: nothing, or `BUSY_VIOLATION` while a request is in progress
(10_state.md R42, 60_exceptions.md R256; notes/assumptions/7.md). -/
def afterReqWrite (s : State) : State :=
  if s.status.busy then raise .busyViolation s else s

/-- `REQ0 <- v` and the start of the request, to be performed event by event by the steps that follow (60_exceptions.md
R254; 10_state.md R45). -/
def startRequest (v : Word) (s : State) : State :=
  let s := { s with req0 := v }
  match decode s.descriptor with
  | .error _ => startIllegal s
  | .ok i =>
    match start i s with
    | .turnedAway t => t
    | .running t => t

/-- `REQ0 <- v` by a host that makes no further move until `BUSY = 0`: the whole request (60_exceptions.md R254, R256). -/
def callRequest (v : Word) (s : State) : Host.Outcome State Fault Refusal :=
  let s := { s with req0 := v }
  match decode s.descriptor with
  | .error _ => .next (startIllegal s)
  | .ok i => exec i s

/-- A write to the register at an offset; `STATUS` and reserved offsets ignore it (10_state.md R41 to R43). -/
def writeRegister (off : Nat) (v : Word) (s : State) : State :=
  if off = 0x00 then startRequest v s
  else if off = 0x04 then afterReqWrite { s with req1 := v }
  else if off = 0x08 then afterReqWrite { s with req2 := v }
  else if off = 0x0C then afterReqWrite { s with req3 := v }
  else s

/-- A host write. -/
def hostWrite (addr bytes : Nat) (v : Word) (s : State) : Host.Outcome State Fault Refusal :=
  match accessOffset s addr bytes with
  | .error r => .refused r
  | .ok off => .next (writeRegister off v s)

/-- The address belongs to the buffer of a RENDER in progress, `[A_BUF, A_BUF + N - 1]` (60_exceptions.md R262). -/
def bufferBusy (s : State) (a : Nat) : Bool :=
  s.status.busy && s.latches.op == 3
  && decide (s.latches.buf.toNat ≤ a) && decide (a < s.latches.buf.toNat + pixelCount s.latches)

/-- The host gives address `a` the byte `v`; not in the buffer of a RENDER in progress (60_exceptions.md R262). -/
def provide (a : Word) (v : Byte) (s : State) : Host.Outcome State Fault Refusal :=
  if bufferBusy s a.toNat then .refused .bufferInUse else .next { s with fb := s.fb.write a.toNat v }

/-- The host takes address `a` out of `BUFMEM`; not in the buffer of a RENDER in progress (60_exceptions.md R262). -/
def withdraw (a : Word) (s : State) : Host.Outcome State Fault Refusal :=
  if bufferBusy s a.toNat then .refused .bufferInUse else .next { s with fb := s.fb.erase a.toNat }

/-- Another agent's set and clear write: it may name no signal line (20_memory.md R85; notes/assumptions/10.md). It is no
event of the block's trace; where it fell among the events is recorded (notes/assumptions/29.md). -/
def otherAgent (set clr : Word) (s : State) : Host.Outcome State Fault Refusal :=
  if (set ||| clr) &&& signalMask s.config.pins ≠ 0 then .refused .signalLineOwned
  else .next { s with
    out := applyMasks s.out set clr, others := s.others ++ [⟨s.trace.length, set, clr⟩] }

/-- One move of the host's schedule, made at a state whose schedule holds the moves after it. How many reads a `waitIdle`
loop makes is open, and none of them is listed in `readback` (DESIGN CHOICE, notes/assumptions/22.md). -/
def hostMove (m : HostMove) (s : State) : Host.Outcome State Fault Refusal :=
  match m with
  | .wait => advance s
  | .waitIdle => if s.status.busy then advance { s with schedule := .waitIdle :: s.schedule } else .next s
  | .read addr bytes => hostRead addr bytes s
  | .write addr bytes v => hostWrite addr bytes v s
  | .call v => callRequest v s
  | .blockReset => .next (blockReset s)
  | .powerOn => .next (powerOn s)
  | .provide a v => provide a v s
  | .withdraw a => withdraw a s
  | .otherAgent set clr => otherAgent set clr s

/-- A machine launched on configuration `c`, with the lines at `v` as the pin-setup collaborator left them and with the
framebuffer bytes `l`, whose addresses are `BUFMEM` (20_memory.md R71; notes/assumptions/9.md): else the state of 10_state.md
R51. A configuration that fails the check is refused: the model defines no run for it (R40; 70_reset_and_hazards.md R283). -/
def launch (c : Config) (v : Word) (l : List (Word × Byte)) : Host.Outcome State Fault Refusal :=
  if h : configAdmitted c = true then
    .next { State.reset with cfg := ⟨c, h⟩, out := v, startOut := v, fb := Memory.ofBytes l }
  else .refused .configurationNotAdmitted

end Sys2Proof.Machine
end

