-- ==== Sys2Proof/Machine/Step.lean ====
section
/-! DEFINITION. One step of the machine: the host's next move where the schedule holds one, else one step of the block
(10_state.md R45, 60_exceptions.md R255). -/

namespace Sys2Proof.Machine

/-- One step. A host move and a step of the block never fall together: the schedule says which comes next
(60_exceptions.md R255; notes/assumptions/5.md). -/
def step (s : State) : Host.Outcome State Fault Refusal :=
  match s.schedule with
  | [] => advance s
  | m :: ms => hostMove m { s with schedule := ms }

/-- `s` with the host about to hand the descriptor to the block as a call: `REQ1` to `REQ3` hold the later words, no request
is in progress, no fault is held, and the schedule's next move is the write of `REQ0` (notes/assumptions/8.md). -/
def State.withFetchWord (s : State) (nbits w : Nat) : State :=
  let d := descriptorOfNat nbits w
  { s with
    req1 := d.req1, req2 := d.req2, req3 := d.req3
    status := { s.status with busy := false, fault := none }, seq := .idle, faultAt := none
    schedule := .call d.req0 :: s.schedule }

end Sys2Proof.Machine
end

