-- ==== Sys2Proof/WellFormed.lean ====
section
/-! DEFINITION. When a source line is well formed: every number fits the field it is assembled into (30_encoding.md R101,
R112). A request (`Instr`) carries its operands at field width, so every request is encodable; coordinates beyond the panel
are encodable and fault when the request runs (30_encoding.md R103). The check of a configuration is in
Machine/Admission.lean. -/

namespace Sys2Proof

/-- The number fits an 8-bit field. -/
def fitsByte (v : Nat) : Bool := decide (v < 2 ^ 8)

/-- The number fits a 16-bit coordinate field. -/
def fitsCoord (v : Nat) : Bool := decide (v < 2 ^ 16)

/-- The number fits the 32-bit address field. -/
def fitsWord (v : Nat) : Bool := decide (v < 2 ^ 32)

/-- Every operand of the line fits its field (30_encoding.md R101). -/
def AsmLine.wellFormed : AsmLine → Bool
  | .begin => true
  | .setwin x0 y0 x1 y1 => fitsCoord x0 && fitsCoord y0 && fitsCoord x1 && fitsCoord y1
  | .render x1 y1 x2 y2 buf => fitsCoord x1 && fitsCoord y1 && fitsCoord x2 && fitsCoord y2 && fitsWord buf
  | .wrcmd b => fitsByte b
  | .wrdata b => fitsByte b
  | .cmd c ps => fitsByte c && ps.all fitsByte
  | .wait => true
  | .waitMs _ => true

end Sys2Proof
end

