-- ==== Sys2Proof/Machine/Assembler.lean ====
section
/-! DEFINITION. The assembler (30_encoding.md R112, R113): which requests a source line stands for, and the host moves a
program is. -/

namespace Sys2Proof.Machine

/-- The requests a line stands for, in order: `CMD` is a `WRCMD` and its `WRDATA`s, `WAIT` and `WAITMS` are the host's own
and stand for none (30_encoding.md R112, R113). A number too wide for its field makes the line ill formed; the spec does not say
what the assembler then does, and here the field takes the number's low bits (DESIGN CHOICE, notes/assumptions/31.md). -/
def lineRequests : AsmLine → List Instr
  | .begin => [.begin]
  | .setwin x0 y0 x1 y1 => [.setwin (.ofNat 16 x0) (.ofNat 16 y0) (.ofNat 16 x1) (.ofNat 16 y1)]
  | .render x1 y1 x2 y2 buf =>
    [.render (.ofNat 16 x1) (.ofNat 16 y1) (.ofNat 16 x2) (.ofNat 16 y2) (.ofNat 32 buf)]
  | .wrcmd b => [.wrcmd (.ofNat 8 b)]
  | .wrdata b => [.wrdata (.ofNat 8 b)]
  | .cmd c ps => .wrcmd (.ofNat 8 c) :: ps.map fun p => .wrdata (.ofNat 8 p)
  | .wait => []
  | .waitMs _ => []

/-- The register writes that hand a descriptor to a block at `base`: `REQ1` to `REQ3`, then `REQ0` (30_encoding.md R112,
60_exceptions.md R262; notes/assumptions/19.md). -/
def descriptorMoves (base : Nat) (d : Descriptor) : List HostMove :=
  [.write (base + 0x04) 4 d.req1, .write (base + 0x08) 4 d.req2, .write (base + 0x0C) 4 d.req3,
   .write (base + 0x00) 4 d.req0]

/-- One request: the host waits until `BUSY = 0`, then writes the descriptor (30_encoding.md R112). -/
def requestMoves (base : Nat) (i : Instr) : List HostMove := .waitIdle :: descriptorMoves base (encode i)

/-- The host moves of a line. `WAIT` polls `STATUS`; `WAITMS n` lets pass the steps the block makes in `n` ms
(30_encoding.md R113; notes/assumptions/20.md). -/
def lineMoves (base : Nat) : AsmLine → List HostMove
  | .wait => [.waitIdle]
  | .waitMs n => List.replicate (Config.stepsInMs n) .wait
  | l => (lineRequests l).flatMap (requestMoves base)

/-- The host moves of a program, lines in order (30_encoding.md R112). -/
def programMoves (base : Nat) (p : List AsmLine) : List HostMove := p.flatMap (lineMoves base)

end Sys2Proof.Machine
end

