-- ==== Sys2Proof/Machine/Observe.lean ====
section
/-! DEFINITION. What is observed of a run (10_state.md R48, R49), and the event lists the rules give for each request
(40_bus_primitive.md R140, R146; 41_panel_init.md R180; 42_addr_window.md R207; 43_pixel_stream.md R228). -/

namespace Sys2Proof.Machine

/-! ## Replay, Latched, waveform -/

/-- OUT after an event (20_memory.md R76, R77; 40_bus_primitive.md R144). -/
def outAfter (v : Word) : Event → Word
  | .set m => v ||| m
  | .clr m => v &&& ~~~m
  | .line p b => withLine v p b
  | .delay _ => v

/-- OUT after a list of events. -/
def replay : Word → List Event → Word
  | v, [] => v
  | v, e :: es => replay (outAfter v e) es

/-- A latched transaction: the DC level and the bus word (10_state.md R48). -/
abbrev Transaction := Bool × BusWord

/-- The transaction the panel captures from GPIO state `v` (10_state.md R48). -/
def transactionOf (pins : Pins) (v : Word) : Transaction := (levelOf v pins.dc, dataWord pins v)

/-- `Latched`: one transaction at every event after which WR is 1 and before which it was 0, in trace order, from GPIO state
`v` (10_state.md R48; 90_conflicts.md C1). -/
def latched (pins : Pins) : Word → List Event → List Transaction
  | _, [] => []
  | v, e :: es =>
    let v' := outAfter v e
    if levelOf v' pins.wr && !levelOf v pins.wr then transactionOf pins v' :: latched pins v' es
    else latched pins v' es

/-- One entry of the waveform (10_state.md R49). -/
inductive Sample where
  /-- The lines took this value. -/
  | level (v : Word)
  /-- The marker of `Delay(n)`: at least `n` ms. -/
  | atLeastMs (n : Nat)
deriving DecidableEq, Repr

/-- OUT after the other agents' writes that fell after `k` events and before the next (20_memory.md R85). -/
def othersAt (others : List OtherWrite) (k : Nat) (v : Word) : Word :=
  others.foldl (fun x w => if w.index = k then applyMasks x w.set w.clr else x) v

/-- An event of the trace with OUT just before it and just after it. -/
structure Moment where
  event  : Event
  before : Word
  after  : Word
deriving DecidableEq, Repr

/-- Each event with OUT around it, the first event being event `k` of the trace, from GPIO state `v`: the other agents' writes
come in where they fell. -/
def timeline (others : List OtherWrite) : Nat → Word → List Event → List Moment
  | _, _, [] => []
  | k, v, e :: es =>
    let x := othersAt others k v
    ⟨e, x, outAfter x e⟩ :: timeline others (k + 1) (outAfter x e) es

/-- OUT after those events and the other agents' writes among them and after them. -/
def endOut (others : List OtherWrite) : Nat → Word → List Event → Word
  | k, v, [] => othersAt others k v
  | k, v, e :: es => endOut others (k + 1) (outAfter (othersAt others k v) e) es

/-- What one event shows: the value of OUT after a `Set`, `Clr` or `Line`, nothing where the event changed no line, and a
delay's marker (10_state.md R49). The predecessor of a value is OUT just before its event, so a write that changes no line
shows nothing whatever other agents wrote before it (notes/assumptions/23.md, 29.md). -/
def shown (m : Moment) : Option Sample :=
  match m.event with
  | .delay n => some (.atLeastMs n)
  | _ => if m.after = m.before then none else some (.level m.after)

/-- The waveform of events with OUT around each (10_state.md R49). -/
def samples (ms : List Moment) : List Sample := ms.filterMap shown

/-- The waveform of a list of events between which no other agent writes (10_state.md R49). -/
def waveform (v : Word) (es : List Event) : List Sample := samples (timeline [] 0 v es)

/-- The events of the trace with OUT around each. -/
def history (s : State) : List Moment := timeline s.others 0 s.startOut s.trace

/-- The values of OUT after each event of the trace, delays included. -/
def outHistory (s : State) : List Word := (history s).map Moment.after

/-- What has been seen of a run so far: the waveform, with the values OUT really took, and `Latched` (10_state.md R48, R49).
`Latched` needs no other agent's writes, which move no signal line. -/
def seenSoFar (s : State) : List Sample × List Transaction :=
  (samples (history s), latched s.config.pins s.startOut s.trace)

/-- A final state: no request is in progress, and no fault is held, since "a model treats the faulted state as never final"
(60_exceptions.md R253; notes/assumptions/30.md). -/
def isFinal (s : State) : Bool := !s.status.busy && s.status.fault.isNone

/-- The observation of a run that ended in `s`: nothing where `s` is not final, so a faulted state has none
(10_state.md R49; 60_exceptions.md R253). -/
def observation (s : State) : Option (List Sample × List Transaction) :=
  if isFinal s then some (seenSoFar s) else none

/-! ## Event lists -/

/-- The events of `Transfer` (40_bus_primitive.md R140). -/
def transferEvents (c : Config) (t : LutPair) (i : Byte) : List Event :=
  [.set (lutRead c t.setTable i), .clr (lutRead c t.clrTable i), .line c.pins.wr true]

/-- The events of `ByteTransfer` (40_bus_primitive.md R146). -/
def byteEvents (c : Config) (t : ByteTx) : List Event :=
  .line c.pins.dc t.1 :: transferEvents c .command t.2

/-- The events of step 1 and the reset pulse (41_panel_init.md R180). -/
def resetEvents (c : Config) : List Event :=
  [.line c.pins.wr true, .line c.pins.rst true, .delay tRstPre, .line c.pins.rst false, .delay tRstLow,
   .line c.pins.rst true, .delay tRstPost]

/-- The events of BEGIN (41_panel_init.md R180). -/
def beginEvents (c : Config) : List Event :=
  resetEvents c ++ (initTxs c).flatMap (byteEvents c) ++ byteEvents c (commandTx c.opSlpout) ++ [.delay tSlpout]
  ++ byteEvents c (commandTx c.opDispon)

/-- The events of SETWIN: eleven transfers and one DC write (42_addr_window.md R207). -/
def windowEvents (c : Config) (l : Latches) : List Event :=
  (windowTxs c l).flatMap (byteEvents c) ++ [.line c.pins.dc true]

/-- The events of a run of pixels (43_pixel_stream.md R225). -/
def pixelEvents (c : Config) (is : List Byte) : List Event := is.flatMap (transferEvents c .colour)

/-- What a byte transfer latches (30_encoding.md R107, R108). -/
def byteTransaction (t : ByteTx) : Transaction := (t.1, cmdWord t.2)

/-- What a pixel transfer latches (30_encoding.md R109). -/
def pixelTransaction (c : Config) (i : Byte) : Transaction := (true, paletteOf c i)

end Sys2Proof.Machine
end

