-- ==== Sys2Proof/Safety.lean ====
section
/-! DEFINITION. The terms claims are stated in: when a request can start, the invariants every step keeps, and the named
premise about the panel. -/

namespace Sys2Proof.Machine

/-! ## When a request can start -/

/-- `BUSY = 0` and `FAULT = 0`: a write of `REQ0` starts a request (60_exceptions.md R254). -/
abbrev Quiet (s : State) : Prop := s.status.busy = false ∧ s.status.fault = none

/-- Quiet before BEGIN. -/
abbrev Fresh (s : State) : Prop := Quiet s ∧ s.status.initDone = false

/-- Quiet after BEGIN. -/
abbrev Ready (s : State) : Prop := Quiet s ∧ s.status.initDone = true

/-- The operands of a window request pass the window checks (42_addr_window.md R209): `x0 ≤ x1 ≤ 479` and
`y0 ≤ y1 ≤ 319`. -/
abbrev WindowOk (x0 y0 x1 y1 : Coord) : Prop :=
  x0.toNat ≤ x1.toNat ∧ y0.toNat ≤ y1.toNat ∧ x1.toNat ≤ 479 ∧ y1.toNat ≤ 319

/-- The move is a reset of the block. -/
def isReset : HostMove → Bool
  | .blockReset => true
  | .powerOn => true
  | _ => false

/-- The next step is a reset of the block. -/
def resetNext (s : State) : Bool := (s.schedule.head?).any isReset

/-- The next step is a whole request. -/
def callNext (s : State) : Bool := (s.schedule.head?).any fun m => match m with
  | .call _ => true
  | _ => false

/-- A host access to the register at offset `off` (10_state.md R41). -/
def registerAddress (s : State) (off : Nat) : Nat := s.config.regBase.toNat + off

/-- Requests performed in order, each from its presentation to its end (30_encoding.md R112). -/
def execAll : List Instr → State → Host.Outcome State Fault Refusal
  | [], s => .next s
  | i :: is, s =>
    match exec i s with
    | .next t => execAll is t
    | .fault r => .fault r
    | .refused r => .refused r

/-- The most events a request emits (60_exceptions.md R264): 4 for a byte request, 45 for SETWIN, `45 + 3N` for RENDER,
`16 + 4(G + P)` for BEGIN, with `G` groups and `P` parameter bytes in `INIT_SEQ`. -/
def eventBound (c : Config) : Instr → Nat
  | .begin => 16 + 4 * ((initGroups c.initSeq).length + ((initGroups c.initSeq).map fun g => g.params.length).sum)
  | .setwin _ _ _ _ => 45
  | .render x0 y0 x1 y1 _ => 45 + 3 * ((x1.toNat - x0.toNat + 1) * (y1.toNat - y0.toNat + 1))
  | .wrcmd _ => 4
  | .wrdata _ => 4

/-! ## The invariant of the sequencer -/

/-- The pad counters of a transfer stay below the configured pads (40_bus_primitive.md R145). -/
def coreFits (c : Config) : CorePhase → Bool
  | .padl k => decide (k < c.nopLow)
  | .padh k => decide (k < c.nopHigh)
  | _ => true

/-- As `coreFits`, for a byte transfer. -/
def txFits (c : Config) : TxPhase → Bool
  | .dc => true
  | .core p => coreFits c p

/-- The latched window passed the start checks (60_exceptions.md R254). -/
def windowChecked (l : Latches) : Bool := !windowDisordered l && !windowOffPanel l

/-- A request of opcode `op` is in progress. -/
def serving (s : State) (op : BitVec 4) : Bool := s.status.busy && s.latches.op == op

/-- The position belongs to a request in progress that can have reached it (10_state.md R45, R46; 40_bus_primitive.md R145;
41_panel_init.md R171; 42_addr_window.md R201; 43_pixel_stream.md R221, R222). -/
def positionFits (s : State) : Bool :=
  let c := s.config
  let begins := serving s 1 && !s.status.initDone
  let windows := serving s 2 && s.status.initDone && windowChecked s.latches
  let renders := serving s 3 && s.status.initDone && windowChecked s.latches
  let streams := renders && decide (s.sent < s.total) && s.total == pixelCount s.latches
  match s.seq with
  | .idle => !s.status.busy
  | .faulted => !s.status.busy
  | .tx p => (serving s 4 || serving s 5) && s.status.initDone && txFits c p
  | .bWr | .bRst | .bD1 | .bRlo | .bD2 | .bRhi | .bD3 | .bD4 => begins
  | .bSeq j p => begins && decide (j < (initTxs c).length) && txFits c p
  | .bSlp p => begins && txFits c p
  | .bOn p => begins && txFits c p
  | .wTx j p => windows && decide (j < 11) && txFits c p
  | .wDc => windows
  | .rWinTx j p => renders && decide (j < 11) && txFits c p
  | .rWinDc => renders
  | .rRd n => streams && n == s.sent
  | .rPix n p => streams && n == s.sent && coreFits c p

/-- The invariant of the sequencer and the memory: the position fits, a fault is held exactly in the faulted position and
its place is recorded exactly then (60_exceptions.md R252), and the framebuffer space is in canonical form. -/
def SeqInv (s : State) : Bool :=
  positionFits s && (s.status.fault.isSome == decide (s.seq = .faulted)) && (s.faultAt.isSome == s.status.fault.isSome)
  && Memory.wf s.fb

/-! ## The invariant of the lines -/

/-- The levels a transfer of word `w`, entry `i` of table pair `t`, leaves at each of its steps: after the set write the
lines of the set mask are high, after the clear write the lines carry `w` with WR low (40_bus_primitive.md R141), after the
WR-high write they carry it with WR high. -/
def coreLevels (c : Config) (t : LutPair) (i : Byte) (w : BusWord) (v : Word) : CorePhase → Bool
  | .set => true
  | .clr => v &&& lutRead c t.setTable i == lutRead c t.setTable i
  | .padl _ => dataWord c.pins v == w && !levelOf v c.pins.wr
  | .wr => dataWord c.pins v == w && !levelOf v c.pins.wr
  | .padh _ => dataWord c.pins v == w && levelOf v c.pins.wr

/-- As `coreLevels` for a byte transfer: from its DC write on, DC has the transfer's level (40_bus_primitive.md R148). -/
def txLevels (c : Config) (t : ByteTx) (v : Word) : TxPhase → Bool
  | .dc => true
  | .core p => levelOf v c.pins.dc == t.1 && coreLevels c .command t.2 (cmdWord t.2) v p

/-- The lines carry what the position says: during a transfer its DC level and, from the clear write on, its word; during the
pixel stream DC high (43_pixel_stream.md R225); RST low exactly inside the reset pulse, high after it and while
`INIT_DONE = 1` (41_panel_init.md R174, 70_reset_and_hazards.md R282). -/
def levelsFit (s : State) : Bool :=
  let c := s.config
  let pins := c.pins
  let v := s.out
  let rst := levelOf v pins.rst
  (!s.status.initDone || rst) &&
  match s.seq with
  | .tx p => txLevels c (s.latches.op == 5, s.latches.byte) v p
  | .bD1 | .bRlo => rst
  | .bD2 | .bRhi => !rst
  | .bD3 | .bD4 => rst
  | .bSeq j p => rst && ((initTxs c)[j]?).all fun t => txLevels c t v p
  | .bSlp p => rst && txLevels c (commandTx c.opSlpout) v p
  | .bOn p => rst && txLevels c (commandTx c.opDispon) v p
  | .wTx j p => ((windowTxs c s.latches)[j]?).all fun t => txLevels c t v p
  | .rWinTx j p => ((windowTxs c s.latches)[j]?).all fun t => txLevels c t v p
  | .rWinDc => levelOf v pins.wr
  | .rRd _ => levelOf v pins.dc && levelOf v pins.wr
  | .rPix _ p => levelOf v pins.dc && coreLevels c .colour s.pixel (paletteOf c s.pixel) v p
  | _ => true

/-! ## The invariants of the trace -/

/-- No table mask is written before a delay of `T_RST_POST` (41_panel_init.md R174, 70_reset_and_hazards.md R296). -/
def noTransferBeforePulse : List Event → Bool
  | [] => true
  | .set _ :: _ => false
  | .clr _ :: _ => false
  | .line _ _ :: es => noTransferBeforePulse es
  | .delay n :: es => n == tRstPost || noTransferBeforePulse es

/-- The position is one BEGIN reaches only after the reset pulse's last wait. -/
def pastPulse : Seq → Bool
  | .bSeq _ _ | .bSlp _ | .bD4 | .bOn _ => true
  | _ => false

/-- No transfer stands in the trace before the reset pulse has completed; and once the position is past the pulse, or
`INIT_DONE = 1`, the pulse's last wait is in the trace (70_reset_and_hazards.md R296). -/
def pulseFirst (s : State) : Bool :=
  noTransferBeforePulse s.trace
  && (!(s.status.initDone || pastPulse s.seq) || s.trace.contains (.delay tRstPost))

/-- The signal lines stand where the trace, replayed from where it began, leaves them: nothing but the block's events moves
them (10_state.md R30, 20_memory.md R85). -/
def traceExplainsLines (s : State) : Bool :=
  replay s.startOut s.trace &&& signalMask s.config.pins == s.out &&& signalMask s.config.pins

/-- OUT is what the trace and the other agents' writes, each where it fell, make of the value it began from; no write is
recorded beyond the trace's end (10_state.md R30, R49; 20_memory.md R85; notes/assumptions/29.md). -/
def historyExplainsOut (s : State) : Bool :=
  s.others.all (fun w => decide (w.index ≤ s.trace.length)) && endOut s.others 0 s.startOut s.trace == s.out

/-! ## The panel, as a named premise -/

/-- What the premise `PANEL_READY` says of the panel, which is outside the block (41_panel_init.md R179). -/
structure PanelView where
  awake                : Bool
  displayOn            : Bool
  landscapeAxisSwapped : Bool
  sixteenBitPixels     : Bool
deriving DecidableEq, Repr

/-- `PANEL_READY`: no rule of the model reads it; a claim about the panel takes it as a premise (41_panel_init.md R179,
90_conflicts.md C4). -/
def panelReady (p : PanelView) : Bool := p.awake && p.displayOn && p.landscapeAxisSwapped && p.sixteenBitPixels

end Sys2Proof.Machine
end

