-- ==== Sys2Proof/Certificates/Slice0/Obligations.lean ====
section
/-! DEFINITION. The statements for the provers. Each says what a rule of spec/ says the machine does; a configuration is
admitted by its type (`Board`), so every statement holds for every admitted configuration. OBLIGATIONS.json gives a statement
the basis `derived` where the spec marks the rule as its own inference ("[derived: ...]"), where only part of a rule is
stated, or where a clause rests on a choice of the model, which the docstring then names. -/

open Sys2Proof Sys2Proof.Machine

/-! ## Encoding -/

/-- 30_encoding.md R101, R102, R112: the descriptor a request is written as decodes to it, every operand at every value. -/
def Obligations.DecodeOfEncodeIsTheRequest : Prop :=
  ∀ i : Instr, decode (encode i) = .ok i

/-- 30_encoding.md R101, R102: a legal descriptor and the encoding of its request agree in every word the request uses. -/
def Obligations.EncodeOfDecodeKeepsUsedWords : Prop :=
  ∀ (d : Descriptor) (i : Instr), decode d = .ok i →
    (encode i).req0 = d.req0 ∧
    match i with
    | .setwin _ _ _ _ => (encode i).req1 = d.req1 ∧ (encode i).req2 = d.req2
    | .render _ _ _ _ _ => (encode i).req1 = d.req1 ∧ (encode i).req2 = d.req2 ∧ (encode i).req3 = d.req3
    | _ => True

/-- 30_encoding.md R106: a legal `REQ0` matches exactly the row of its request, an illegal one matches no row. -/
def Obligations.DecoderAgreesWithMaskTable : Prop :=
  ∀ d : Descriptor,
    match decode d with
    | .ok i => (opcodeRows.filter fun r => r.matches d.req0).map OpcodeRow.mnemonic = [mnemonicOf i]
    | .error _ => opcodeRows.filter (fun r => r.matches d.req0) = []

/-- 30_encoding.md R105: exactly these descriptors are illegal, and presenting one to a quiet block raises `ILLEGAL_REQ`
with no event and no line moved. -/
def Obligations.IllegalDescriptorsFaultAtStart : Prop :=
  (∀ d : Descriptor, (∃ e, decode d = .error e) ↔
    ((d.req0.extractLsb' 0 4 = 0 ∨ 6 ≤ (d.req0.extractLsb' 0 4).toNat) ∨ d.req0.extractLsb' 12 20 ≠ 0 ∨
      (d.req0.extractLsb' 0 4 ≠ 4 ∧ d.req0.extractLsb' 0 4 ≠ 5 ∧ d.req0.extractLsb' 4 8 ≠ 0))) ∧
  (∀ (s : State) (v : Word) (e : DecodeError), Quiet s → decode ⟨v, s.req1, s.req2, s.req3⟩ = .error e →
    ∃ t, startRequest v s = t ∧
      t.status = { s.status with fault := some .illegalReq } ∧ t.seq = .faulted ∧ t.faultAt = some s.seq ∧
      t.req0 = v ∧ t.trace = s.trace ∧ t.out = s.out)

/-- 30_encoding.md R101, R106, written out bit by bit: a few words and the requests they are. -/
def Obligations.SpecWordsDecode : Prop :=
  decode ⟨0x00000001, 7, 8, 9⟩ = .ok .begin ∧
  decode ⟨0x00000002, 0x0014000A, 0x013F01DF, 9⟩ = .ok (.setwin 10 20 479 319) ∧
  decode ⟨0x00000003, 0x00070003, 0x00080005, 0x20000000⟩ = .ok (.render 3 7 5 8 0x20000000) ∧
  decode ⟨0x00000364, 0, 0, 0⟩ = .ok (.wrcmd 0x36) ∧
  decode ⟨0x00000285, 0, 0, 0⟩ = .ok (.wrdata 0x28) ∧
  decode ⟨0x00000012, 0, 0, 0⟩ = .error .byteUnused ∧
  decode ⟨0x00001001, 0, 0, 0⟩ = .error .reservedBits ∧
  decode ⟨0x00000006, 0, 0, 0⟩ = .error .reservedOp

/-- 60_exceptions.md R254, 30_encoding.md R102: a request's latches are the register fields its descriptor holds. -/
def Obligations.LatchesAreTheDescriptorFields : Prop :=
  ∀ (d : Descriptor) (i : Instr), decode d = .ok i →
    latchRequest i d = ⟨d.req0.extractLsb' 0 4, d.req0.extractLsb' 4 8, d.req1.extractLsb' 0 16, d.req1.extractLsb' 16 16,
      d.req2.extractLsb' 0 16, d.req2.extractLsb' 16 16, d.req3⟩

/-- 30_encoding.md R112, R113: a well-formed line assembles to requests that carry exactly its numbers. -/
def Obligations.WellFormedLineKeepsItsNumbers : Prop :=
  (∀ x0 y0 x1 y1 : Nat, (AsmLine.setwin x0 y0 x1 y1).wellFormed = true →
    ∃ a b c d : Coord, lineRequests (.setwin x0 y0 x1 y1) = [.setwin a b c d] ∧
      a.toNat = x0 ∧ b.toNat = y0 ∧ c.toNat = x1 ∧ d.toNat = y1) ∧
  (∀ x1 y1 x2 y2 buf : Nat, (AsmLine.render x1 y1 x2 y2 buf).wellFormed = true →
    ∃ (a b c d : Coord) (e : Word), lineRequests (.render x1 y1 x2 y2 buf) = [.render a b c d e] ∧
      a.toNat = x1 ∧ b.toNat = y1 ∧ c.toNat = x2 ∧ d.toNat = y2 ∧ e.toNat = buf) ∧
  (∀ b : Nat, (AsmLine.wrcmd b).wellFormed = true →
    ∃ a : Byte, lineRequests (.wrcmd b) = [.wrcmd a] ∧ a.toNat = b) ∧
  (∀ b : Nat, (AsmLine.wrdata b).wellFormed = true →
    ∃ a : Byte, lineRequests (.wrdata b) = [.wrdata a] ∧ a.toNat = b) ∧
  (∀ (c : Nat) (ps : List Nat), (AsmLine.cmd c ps).wellFormed = true →
    ∃ (a : Byte) (bs : List Byte), lineRequests (.cmd c ps) = .wrcmd a :: bs.map .wrdata ∧
      a.toNat = c ∧ bs.map BitVec.toNat = ps)

/-! ## The configuration check -/

/-- 10_state.md R39: what an entry that encodes `w` does to every GPIO state. -/
def Obligations.EncodingEntryPlacesItsWord : Prop :=
  ∀ (pins : Pins) (set clr : Word) (w : BusWord), (signalLines pins).Nodup →
    (encodes pins set clr w = true ↔
      (set &&& ~~~dataMask pins = 0 ∧ clr &&& ~~~(dataMask pins ||| wrBit pins) = 0 ∧ clr &&& wrBit pins = wrBit pins ∧
        (set ||| clr) &&& dataMask pins = dataMask pins ∧ (set &&& ~~~clr) &&& dataMask pins = place pins w)) ∧
    (encodes pins set clr w = true → ∀ s : Word,
      dataWord pins (applyMasks s set clr) = w ∧ levelOf (applyMasks s set clr) pins.wr = false ∧
      ∀ p : Line, p ∉ pins.d.toList → p ≠ pins.wr → levelOf (applyMasks s set clr) p = levelOf s p)

/-- 10_state.md R40: a configuration is launched only when its pins are distinct and its tables encode; one that fails is
refused; and the canonical entry passes. -/
def Obligations.OnlyCheckedConfigurationsAreLaunched : Prop :=
  (∀ (c : Config) (v : Word) (l : List (Word × Byte)) (t : State), launch c v l = .next t →
    t.cfg.cfg = c ∧ (signalLines c.pins).Nodup ∧
    (∀ b : Byte, encodes c.pins (lutRead c .cmdSet b) (lutRead c .cmdClr b) (cmdWord b) = true) ∧
    (∀ i : Byte, encodes c.pins (lutRead c .colSet i) (lutRead c .colClr i) (paletteOf c i) = true)) ∧
  (∀ (c : Config) (v : Word) (l : List (Word × Byte)),
    (¬(signalLines c.pins).Nodup ∨
      (∃ b : Byte, encodes c.pins (lutRead c .cmdSet b) (lutRead c .cmdClr b) (cmdWord b) = false) ∨
      (∃ i : Byte, encodes c.pins (lutRead c .colSet i) (lutRead c .colClr i) (paletteOf c i) = false)) →
    launch c v l = .refused .configurationNotAdmitted) ∧
  (∀ (pins : Pins) (w : BusWord), (signalLines pins).Nodup →
    encodes pins (place pins w) (place pins (~~~w) ||| wrBit pins) w = true)

/-- 41_panel_init.md R172 items 1 and 2, 00_scope.md R9: a configuration whose `INIT_SEQ` lacks the structure, or whose
`UNROLL` is 0, is refused, and one that passes every check is launched. That no check of items 3 and 4 can refuse it is the
model's reading of R172, DEDUCED in notes/assumptions/16.md. -/
def Obligations.InitSeqStructureIsChecked : Prop :=
  (∀ (c : Config) (v : Word) (l : List (Word × Byte)),
    (c.initSeq.gamma1.params.length ≠ 15 ∨ c.initSeq.gamma2.params.length ≠ 15 ∨ [] ∈ configParts c.initSeq ∨ c.unroll = 0) →
    launch c v l = .refused .configurationNotAdmitted) ∧
  (∀ (c : Config) (v : Word) (l : List (Word × Byte)), c.initSeq.gamma1.params.length = 15 → c.initSeq.gamma2.params.length = 15 →
    [] ∉ configParts c.initSeq → 1 ≤ c.unroll → (signalLines c.pins).Nodup →
    (∀ b : Byte, encodes c.pins (lutRead c .cmdSet b) (lutRead c .cmdClr b) (cmdWord b) = true) →
    (∀ i : Byte, encodes c.pins (lutRead c .colSet i) (lutRead c .colClr i) (paletteOf c i) = true) →
    ∃ t, launch c v l = .next t ∧ t.cfg.cfg = c ∧ t.out = v)

/-- 10_state.md R32: no table mask names the DC line, so DC moves only by a `LineWrite` of `PIN_DC`. -/
def Obligations.TableMasksLeaveDcAlone : Prop :=
  ∀ (b : Board) (t : LutPair) (i : Byte) (v : Word),
    levelOf (lutRead b.cfg t.setTable i) b.cfg.pins.dc = false ∧ levelOf (lutRead b.cfg t.clrTable i) b.cfg.pins.dc = false ∧
    levelOf (outAfter v (.set (lutRead b.cfg t.setTable i))) b.cfg.pins.dc = levelOf v b.cfg.pins.dc ∧
    levelOf (outAfter v (.clr (lutRead b.cfg t.clrTable i))) b.cfg.pins.dc = levelOf v b.cfg.pins.dc ∧
    (∀ (p : Line) (x : Bool), p ≠ b.cfg.pins.dc →
      levelOf (outAfter v (.line p x)) b.cfg.pins.dc = levelOf v b.cfg.pins.dc)

/-! ## Primitives and the transfer core -/

/-- 20_memory.md R76, R77: each GPIO primitive moves exactly the lines it names, as one event, and nothing else. -/
def Obligations.GpioPrimitivesMoveTheNamedLines : Prop :=
  ∀ (s : State) (m : Word) (p : Line) (v : Bool),
    (∃ w, gpioSet m s = { s with out := w, trace := s.trace ++ [.set m] } ∧
      ∀ q : Line, levelOf w q = (levelOf m q || levelOf s.out q)) ∧
    (∃ w, gpioClr m s = { s with out := w, trace := s.trace ++ [.clr m] } ∧
      ∀ q : Line, levelOf w q = (levelOf s.out q && !levelOf m q)) ∧
    (∃ w, lineWrite p v s = { s with out := w, trace := s.trace ++ [.line p v] } ∧
      ∀ q : Line, levelOf w q = if q = p then v else levelOf s.out q)

/-- 40_bus_primitive.md R141: the two levels of a transfer and the one transaction it latches, from any state. -/
def Obligations.TransferLatchesItsWordOnce : Prop :=
  ∀ (s : State) (t : LutPair) (i : Byte),
    let c := s.config
    let w := match t with
      | .command => cmdWord i
      | .colour => paletteOf c i
    let low := (gpioClr (lutRead c t.clrTable i) (gpioSet (lutRead c t.setTable i) s)).out
    let u := transfer t i s
    (dataWord c.pins low = w ∧ levelOf low c.pins.wr = false ∧
      ∀ p : Line, p ∉ c.pins.d.toList → p ≠ c.pins.wr → levelOf low p = levelOf s.out p) ∧
    (levelOf u.out c.pins.wr = true ∧ dataWord c.pins u.out = w) ∧
    u = { s with out := u.out, trace := s.trace ++ transferEvents c t i } ∧
    latched c.pins s.out (transferEvents c t i) = [(levelOf s.out c.pins.dc, w)]

/-- 40_bus_primitive.md R147: a byte transfer latches exactly `(dc, CMDWORD(b))` and leaves these levels. -/
def Obligations.ByteTransferLatchesItsByte : Prop :=
  ∀ (s : State) (dc : Bool) (b : Byte),
    let c := s.config
    let u := byteTransfer (dc, b) s
    u = { s with out := u.out, trace := s.trace ++ byteEvents c (dc, b) } ∧
    latched c.pins s.out (byteEvents c (dc, b)) = [(dc, b.setWidth 16)] ∧
    levelOf u.out c.pins.dc = dc ∧ levelOf u.out c.pins.wr = true ∧ dataWord c.pins u.out = b.setWidth 16 ∧
    ∀ p : Line, p ∉ c.pins.d.toList → p ≠ c.pins.wr → p ≠ c.pins.dc → levelOf u.out p = levelOf s.out p

/-- 40_bus_primitive.md R148: from its DC write to the WR-high write of the same transfer, DC does not change. -/
def Obligations.DcIsStableDuringAByteTransfer : Prop :=
  ∀ (b : Board) (v : Word) (t : ByteTx) (k : Nat), 1 ≤ k → k ≤ 4 →
    levelOf (replay v ((byteEvents b.cfg t).take k)) b.cfg.pins.dc = t.1 ∧
    (∀ e ∈ (byteEvents b.cfg t).drop 1, ∀ x : Bool, e ≠ .line b.cfg.pins.dc x)

/-! ## The requests -/

/-- 40_bus_primitive.md R150: `WRCMD b` from a ready block, its whole next state, its transaction and its levels. -/
def Obligations.WrcmdSendsOneCommandByte : Prop :=
  ∀ (s : State) (b : Byte), Ready s →
    let c := s.config
    let es := byteEvents c (false, b)
    exec (.wrcmd b) s = .next { s with
      latches := latchRequest (.wrcmd b) s.descriptor, seq := .idle, out := replay s.out es, trace := s.trace ++ es } ∧
    es.length = 4 ∧ latched c.pins s.out es = [(false, b.setWidth 16)] ∧
    levelOf (replay s.out es) c.pins.dc = false ∧ levelOf (replay s.out es) c.pins.wr = true

/-- 40_bus_primitive.md R151: `WRDATA b` from a ready block, its whole next state, its transaction and its levels. -/
def Obligations.WrdataSendsOneDataByte : Prop :=
  ∀ (s : State) (b : Byte), Ready s →
    let c := s.config
    let es := byteEvents c (true, b)
    exec (.wrdata b) s = .next { s with
      latches := latchRequest (.wrdata b) s.descriptor, seq := .idle, out := replay s.out es, trace := s.trace ++ es } ∧
    es.length = 4 ∧ latched c.pins s.out es = [(true, b.setWidth 16)] ∧
    levelOf (replay s.out es) c.pins.dc = true ∧ levelOf (replay s.out es) c.pins.wr = true

/-- 42_addr_window.md R200: SETWIN from a ready block with a window on the panel, its whole next state; DC is left high. -/
def Obligations.SetwinSendsItsWindow : Prop :=
  ∀ (s : State) (x0 y0 x1 y1 : Coord), Ready s → WindowOk x0 y0 x1 y1 →
    let l := latchRequest (.setwin x0 y0 x1 y1) s.descriptor
    let es := windowEvents s.config l
    exec (.setwin x0 y0 x1 y1) s = .next { s with
      latches := l, seq := .idle, out := replay s.out es, trace := s.trace ++ es } ∧
    levelOf (replay s.out es) s.config.pins.dc = true ∧ levelOf (replay s.out es) s.config.pins.wr = true ∧
    dataWord s.config.pins (replay s.out es) = cmdWord s.config.opRamwr

/-- 42_addr_window.md R207: the eleven transactions and 45 events of a SETWIN. -/
def Obligations.SetwinLatchesElevenTransactions : Prop :=
  ∀ (s : State) (x0 y0 x1 y1 : Coord), Ready s → WindowOk x0 y0 x1 y1 →
    let c := s.config
    let param := fun b : BitVec 8 => (true, b.setWidth 16)
    ∃ t es, exec (.setwin x0 y0 x1 y1) s = .next t ∧ t.trace = s.trace ++ es ∧ es.length = 45 ∧
      latched c.pins s.out es =
        [(false, cmdWord c.opCaset),
         param (x0.extractLsb' 8 8), param (x0.extractLsb' 0 8), param (x1.extractLsb' 8 8), param (x1.extractLsb' 0 8),
         (false, cmdWord c.opPaset),
         param (y0.extractLsb' 8 8), param (y0.extractLsb' 0 8), param (y1.extractLsb' 8 8), param (y1.extractLsb' 0 8),
         (false, cmdWord c.opRamwr)]

/-- 42_addr_window.md R208: SETWIN twice with the same operands emits the same events and latches the same list. -/
def Obligations.SetwinTwiceEmitsTheSame : Prop :=
  ∀ (s : State) (x0 y0 x1 y1 : Coord), Ready s → WindowOk x0 y0 x1 y1 →
    ∃ t u es, exec (.setwin x0 y0 x1 y1) s = .next t ∧ exec (.setwin x0 y0 x1 y1) t = .next u ∧
      t.trace = s.trace ++ es ∧ u.trace = t.trace ++ es ∧
      latched s.config.pins s.out es = latched s.config.pins t.out es ∧ u.out = t.out

/-- 41_panel_init.md R170: BEGIN from a fresh block, its whole next state. -/
def Obligations.BeginRunsTheInitialization : Prop :=
  ∀ s : State, Fresh s →
    let es := beginEvents s.config
    exec .begin s = .next { s with
      latches := latchRequest .begin s.descriptor, seq := .idle, status := { s.status with initDone := true },
      out := replay s.out es, trace := s.trace ++ es }

/-- 41_panel_init.md R180: the trace of BEGIN, its length, and what it latches, the stray first transaction of a WR that
started low among it. -/
def Obligations.BeginTraceAndTransactions : Prop :=
  ∀ s : State, Fresh s →
    let c := s.config
    let gs := initGroups c.initSeq
    let es := [.line c.pins.wr true, .line c.pins.rst true, .delay 5, .line c.pins.rst false, .delay 20,
        .line c.pins.rst true, .delay 150]
      ++ gs.flatMap (fun g => byteEvents c (false, g.command) ++ g.params.flatMap fun p => byteEvents c (true, p))
      ++ byteEvents c (false, c.opSlpout) ++ [.delay 120] ++ byteEvents c (false, c.opDispon)
    ∃ t, exec .begin s = .next t ∧ t.trace = s.trace ++ es ∧
      es.length = 16 + 4 * (gs.length + (gs.map fun g => g.params.length).sum) ∧
      latched c.pins s.out es =
        (if levelOf s.out c.pins.wr then [] else [(levelOf s.out c.pins.dc, dataWord c.pins s.out)])
        ++ gs.flatMap (fun g => (false, cmdWord g.command) :: g.params.map fun p => (true, cmdWord p))
        ++ [(false, cmdWord c.opSlpout), (false, cmdWord c.opDispon)]

/-- 41_panel_init.md R173, R174: BEGIN raises WR and then RST, pulses RST low between its three waits, writes RST never
again, and emits no transfer before the 150 ms wait. -/
def Obligations.BeginPulsesResetBeforeAnyTransfer : Prop :=
  ∀ s : State, Fresh s →
    let pins := s.config.pins
    ∃ t rest, exec .begin s = .next t ∧
      t.trace = s.trace ++ [.line pins.wr true, .line pins.rst true, .delay 5, .line pins.rst false, .delay 20,
        .line pins.rst true, .delay 150] ++ rest ∧
      (∀ v : Bool, Event.line pins.rst v ∉ rest) ∧ levelOf t.out pins.rst = true ∧ levelOf t.out pins.wr = true

/-- 43_pixel_stream.md R220: RENDER of a readable buffer from a ready block, its whole next state. -/
def Obligations.RenderStreamsItsBuffer : Prop :=
  ∀ (s : State) (x0 y0 x1 y1 : Coord) (buf : Word) (bytes : List Byte), Ready s → WindowOk x0 y0 x1 y1 →
    bytes.length = (x1.toNat - x0.toNat + 1) * (y1.toNat - y0.toNat + 1) → buf.toNat + bytes.length ≤ 2 ^ 32 →
    (∀ (k : Nat) (h : k < bytes.length), s.fb.read (buf.toNat + k) = some bytes[k]) →
    let l := latchRequest (.render x0 y0 x1 y1 buf) s.descriptor
    let es := windowEvents s.config l ++ bytes.flatMap (transferEvents s.config .colour)
    exec (.render x0 y0 x1 y1 buf) s = .next { s with
      latches := l, seq := .idle, total := bytes.length, sent := bytes.length, pixel := bytes.getLast?.getD s.pixel,
      out := replay s.out es, trace := s.trace ++ es }

/-- 43_pixel_stream.md R228: what a completed RENDER latches, and its number of events. -/
def Obligations.RenderLatchesWindowThenPixels : Prop :=
  ∀ (s : State) (x0 y0 x1 y1 : Coord) (buf : Word) (bytes : List Byte), Ready s → WindowOk x0 y0 x1 y1 →
    bytes.length = (x1.toNat - x0.toNat + 1) * (y1.toNat - y0.toNat + 1) → buf.toNat + bytes.length ≤ 2 ^ 32 →
    (∀ (k : Nat) (h : k < bytes.length), s.fb.read (buf.toNat + k) = some bytes[k]) →
    let pins := s.config.pins
    ∃ t u es ws, exec (.render x0 y0 x1 y1 buf) s = .next t ∧ exec (.setwin x0 y0 x1 y1) s = .next u ∧
      t.trace = s.trace ++ es ∧ u.trace = s.trace ++ ws ∧ es.length = 45 + 3 * bytes.length ∧
      latched pins s.out es = latched pins s.out ws ++ bytes.map (fun i => (true, paletteOf s.config i)) ∧
      (latched pins s.out es).length = 11 + bytes.length ∧
      levelOf t.out pins.dc = true ∧ levelOf t.out pins.wr = true

/-- 43_pixel_stream.md R229, 20_memory.md R72: RENDER whose pixel `bytes.length` is unreadable, or whose address exceeds
`2^32 - 1`, stops there with `BUF_OOB`: the events of SETWIN and of the pixels before it are emitted and latched, and the panel is owed
the rest. -/
def Obligations.RenderFaultsAtTheFirstUnreadablePixel : Prop :=
  ∀ (s : State) (x0 y0 x1 y1 : Coord) (buf : Word) (bytes : List Byte), Ready s → WindowOk x0 y0 x1 y1 →
    bytes.length < (x1.toNat - x0.toNat + 1) * (y1.toNat - y0.toNat + 1) →
    (∀ (k : Nat) (h : k < bytes.length), buf.toNat + k < 2 ^ 32 ∧ s.fb.read (buf.toNat + k) = some bytes[k]) →
    (2 ^ 32 ≤ buf.toNat + bytes.length ∨ s.fb.read (buf.toNat + bytes.length) = none) →
    let c := s.config
    let n := bytes.length
    let ws := windowEvents c (latchRequest (.render x0 y0 x1 y1 buf) s.descriptor)
    let es := ws ++ bytes.flatMap (transferEvents c .colour)
    ∃ t, exec (.render x0 y0 x1 y1 buf) s = .next t ∧ t.trace = s.trace ++ es ∧ es.length = 45 + 3 * n ∧
      (latched c.pins s.out ws).length = 11 ∧
      latched c.pins s.out es = latched c.pins s.out ws ++ bytes.map (fun i => (true, paletteOf c i)) ∧
      t.out = replay s.out es ∧
      t.status = { s.status with fault := some .bufOob } ∧ t.seq = .faulted ∧ t.faultAt = some (.rRd n) ∧
      levelOf t.out c.pins.wr = true ∧ levelOf t.out c.pins.dc = true ∧
      dataWord c.pins t.out = (match bytes.getLast? with
        | some i => paletteOf c i
        | none => cmdWord c.opRamwr) ∧
      t.total - t.sent = (x1.toNat - x0.toNat + 1) * (y1.toNat - y0.toNat + 1) - n ∧ t.fb = s.fb

/-- 43_pixel_stream.md R223: every grouping of the pixels into batches is the single loop, for every unroll factor. -/
def Obligations.BatchingIsTheSingleLoop : Prop :=
  (∀ (u k : Nat) (s : State), 1 ≤ u → sendBatched u k s = sendPixels k s) ∧
  (∀ s : State, renderBodyBatched s = renderBody s)

/-- 43_pixel_stream.md R222: the pixel count after the window checks. -/
def Obligations.PixelCountIsExactAndBounded : Prop :=
  ∀ l : Latches, WindowOk l.x0 l.y0 l.x1 l.y1 →
    pixelCount l = (l.x1.toNat - l.x0.toNat + 1) * (l.y1.toNat - l.y0.toNat + 1) ∧
    1 ≤ windowWidth l ∧ windowWidth l ≤ 480 ∧ 1 ≤ windowHeight l ∧ windowHeight l ≤ 320 ∧
    1 ≤ pixelCount l ∧ pixelCount l ≤ 153600

/-- 43_pixel_stream.md R224: the places of the pixels fill the window, each once. -/
def Obligations.PixelPlacesFillTheWindow : Prop :=
  ∀ l : Latches, WindowOk l.x0 l.y0 l.x1 l.y1 →
    (∀ n : Nat, n < pixelCount l →
      l.x0.toNat ≤ pixelColumn l n ∧ pixelColumn l n ≤ l.x1.toNat ∧ l.y0.toNat ≤ pixelRow l n ∧ pixelRow l n ≤ l.y1.toNat) ∧
    (∀ x y : Nat, l.x0.toNat ≤ x → x ≤ l.x1.toNat → l.y0.toNat ≤ y → y ≤ l.y1.toNat →
      ∃ n, n < pixelCount l ∧ pixelColumn l n = x ∧ pixelRow l n = y ∧
        ∀ m, m < pixelCount l → pixelColumn l m = x → pixelRow l m = y → m = n)

/-- 43_pixel_stream.md R224, R230 (g): RENDER depends on no framebuffer byte outside `[A_BUF, A_BUF + N - 1]`. -/
def Obligations.RenderReadsOnlyItsBuffer : Prop :=
  ∀ (s t : State) (m : Memory) (x0 y0 x1 y1 : Coord) (buf : Word),
    (∀ a, buf.toNat ≤ a → a < buf.toNat + (x1.toNat - x0.toNat + 1) * (y1.toNat - y0.toNat + 1) →
      Memory.read m a = s.fb.read a) →
    exec (.render x0 y0 x1 y1 buf) s = .next t →
    exec (.render x0 y0 x1 y1 buf) { s with fb := m } = .next { t with fb := m }

/-! ## Frames and whole-machine rules -/

/-- What no request changes: the configuration, the request registers, every framebuffer byte, the host's side, CS, BL and
every line that is no signal; RST and `INIT_DONE` change only by BEGIN, the pixel counters only by RENDER; the trace only
grows (10_state.md R31, R35, R42; 20_memory.md R70; 70_reset_and_hazards.md R282). -/
def Obligations.RequestsLeaveTheRestAlone : Prop :=
  ∀ (i : Instr) (s t : State), exec i s = .next t →
    t.cfg = s.cfg ∧ t.req0 = s.req0 ∧ t.req1 = s.req1 ∧ t.req2 = s.req2 ∧ t.req3 = s.req3 ∧
    (∀ a : Nat, t.fb.read a = s.fb.read a) ∧ t.schedule = s.schedule ∧ t.readback = s.readback ∧ t.draws = s.draws ∧
    t.startOut = s.startOut ∧ t.others = s.others ∧ (∃ es, t.trace = s.trace ++ es) ∧
    (∀ p : Line, p = s.config.pins.cs ∨ p = s.config.pins.bl ∨ p ∉ signalLines s.config.pins →
      levelOf t.out p = levelOf s.out p) ∧
    (i ≠ .begin → levelOf t.out s.config.pins.rst = levelOf s.out s.config.pins.rst ∧ t.status.initDone = s.status.initDone) ∧
    ((∀ x0 y0 x1 y1 buf, i ≠ .render x0 y0 x1 y1 buf) → t.total = s.total ∧ t.sent = s.sent ∧ t.pixel = s.pixel)

/-- 20_memory.md R78: nothing a request or a step of the block does but the lines themselves depends on `OUT`. -/
def Obligations.NoRequestReadsTheLines : Prop :=
  (∀ (i : Instr) (s t : State) (v : Word), exec i s = .next t →
    ∃ w, exec i { s with out := v } = .next { t with out := w }) ∧
  (∀ (s t : State) (v : Word), advance s = .next t → ∃ w, advance { s with out := v } = .next { t with out := w })

/-- 40_bus_primitive.md R142, 43_pixel_stream.md R223, 92_eei_decisions.md D26, D27: pads, the unroll factor, the timing
figures and the port addresses change nothing a request does. -/
def Obligations.PadsAndTimingChangeNoRequest : Prop :=
  ∀ (i : Instr) (s t : State) (b : Board) (u l h : Nat) (tm : Timing) (ga gc rb : Word) (la : LineAddrs),
    b.cfg = { s.cfg.cfg with
      unroll := u, nopLow := l, nopHigh := h, timing := tm, gpioSetAddr := ga, gpioClrAddr := gc, lineAddrs := la,
      regBase := rb } →
    exec i s = .next t → exec i { s with cfg := b } = .next { t with cfg := b }

/-- 60_exceptions.md R264: a request emits at most its bound of events. -/
def Obligations.RequestsEmitBoundedEvents : Prop :=
  ∀ (i : Instr) (s t : State), exec i s = .next t → t.trace.length ≤ s.trace.length + eventBound s.config i

/-- 10_state.md R43, 41_panel_init.md R170, 92_eei_decisions.md D16: `INIT_DONE` falls only by a reset, and rises only in a
step that completes BEGIN: the last step of its display-on transfer, or the model's `call` move, which runs all of BEGIN in
one step (notes/assumptions/6.md). -/
def Obligations.InitDoneRisesByBeginAndFallsByReset : Prop :=
  ∀ s t : State, step s = .next t →
    (s.status.initDone = true → resetNext s = false → t.status.initDone = true) ∧
    (s.status.initDone = false → t.status.initDone = true →
      t.status.busy = false ∧ t.status.fault = s.status.fault ∧ t.seq = .idle ∧
      ((∃ p, s.status.busy = true ∧ s.seq = .bOn p) ∨
      (∃ v ms, s.schedule = .call v :: ms ∧ decode ⟨v, s.req1, s.req2, s.req3⟩ = .ok .begin)))

/-- 92_eei_decisions.md D33, 60_exceptions.md R253: while no request is in progress, a step that is neither a reset nor a
call emits no event and moves no signal line. That no other agent moves a signal line between requests is the model's choice
(DESIGN CHOICE, notes/assumptions/10.md). -/
def Obligations.IdleBlockIsSilent : Prop :=
  ∀ s t : State, s.status.busy = false → resetNext s = false → callNext s = false → step s = .next t →
    t.trace = s.trace ∧ t.out &&& signalMask s.config.pins = s.out &&& signalMask s.config.pins

/-! ## Faults -/

/-- 60_exceptions.md R252: `raise Fault(c)`, field by field. -/
def Obligations.RaiseKeepsTheFirstCode : Prop :=
  ∀ (c : FaultCode) (s : State),
    (raise c s).status.busy = false ∧ (raise c s).seq = .faulted ∧
    (raise c s).status.fault = (match s.status.fault with
      | none => some c
      | some d => some d) ∧
    (raise c s).status.initDone = s.status.initDone ∧ (raise c s).out = s.out ∧ (raise c s).trace = s.trace ∧
    raise c s = { s with status := (raise c s).status, seq := .faulted, faultAt := (raise c s).faultAt } ∧
    (s.status.fault = none → (raise c s).faultAt = some s.seq)

/-- 60_exceptions.md R254, R255: what a quiet block answers a decoded request whose start checks fail: the first check that
applies, no event, no line moved. -/
def Obligations.StartChecksReportTheFirstFault : Prop :=
  ∀ (i : Instr) (s : State), Quiet s →
    let l := latchRequest i s.descriptor
    let window := match i with
      | .setwin _ _ _ _ => true
      | .render _ _ _ _ _ => true
      | _ => false
    let answer := fun c : FaultCode => exec i s = .next { s with
      latches := l, status := { s.status with fault := some c }, seq := .faulted, faultAt := some s.seq }
    (i = .begin → s.status.initDone = true → answer .reinit) ∧
    (i ≠ .begin → s.status.initDone = false → answer .notInit) ∧
    (window = true → s.status.initDone = true → (l.x1.toNat < l.x0.toNat ∨ l.y1.toNat < l.y0.toNat) → answer .badWindow) ∧
    (window = true → s.status.initDone = true → l.x0.toNat ≤ l.x1.toNat → l.y0.toNat ≤ l.y1.toNat →
      (479 < l.x1.toNat ∨ 319 < l.y1.toNat) → answer .outOfRange)

/-- 60_exceptions.md R253: a held fault stays, no request starts and no event is emitted until a reset; the request
registers still store. That the signal lines stay, whatever another agent does between requests, is the model's choice
(DESIGN CHOICE, notes/assumptions/10.md). -/
def Obligations.HeldFaultStaysUntilReset : Prop :=
  ∀ s : State, s.status.busy = false → s.status.fault.isSome = true →
    (∀ t, resetNext s = false → step s = .next t →
      t.status = s.status ∧ t.seq = s.seq ∧ t.trace = s.trace ∧ t.latches = s.latches ∧
      t.out &&& signalMask s.config.pins = s.out &&& signalMask s.config.pins) ∧
    (∀ v : Word, startRequest v s = { s with req0 := v } ∧
      writeRegister 0x04 v s = { s with req1 := v } ∧ writeRegister 0x08 v s = { s with req2 := v } ∧
      writeRegister 0x0C v s = { s with req3 := v })

/-- 60_exceptions.md R256, R252: a write to any `REQn` while a request is in progress stops it there with `BUSY_VIOLATION`,
with no event and no line moved. -/
def Obligations.WriteDuringARequestStopsIt : Prop :=
  ∀ (s : State) (off : Nat) (v : Word) (ms : List HostMove),
    s.status.busy = true → s.status.fault = none → off ∈ [0x00, 0x04, 0x08, 0x0C] →
    s.schedule = .write (registerAddress s off) 4 v :: ms →
    ∃ t, step s = .next t ∧ t.status = ⟨false, s.status.initDone, some .busyViolation⟩ ∧ t.seq = .faulted ∧
      t.faultAt = some s.seq ∧ t.trace = s.trace ∧ t.out = s.out ∧ t.latches = s.latches ∧ t.sent = s.sent ∧ t.schedule = ms

/-! ## Reset -/

/-- 10_state.md R51: the values the spec gives for reset, in the state right after reset, after a block reset of every
state, and at a launch with the lines at any value. -/
def Obligations.ResetStateHasTheGivenValues : Prop :=
  (State.reset.req0 = 0 ∧ State.reset.req1 = 0 ∧ State.reset.req2 = 0 ∧ State.reset.req3 = 0 ∧
    statusWord State.reset.status = 0 ∧ State.reset.seq = .idle ∧ State.reset.trace = []) ∧
  (∀ s : State, (blockReset s).req0 = 0 ∧ (blockReset s).req1 = 0 ∧ (blockReset s).req2 = 0 ∧ (blockReset s).req3 = 0 ∧
    statusWord (blockReset s).status = 0 ∧ (blockReset s).seq = .idle ∧ (blockReset s).trace = []) ∧
  (∀ (c : Config) (v : Word) (l : List (Word × Byte)) (t : State), launch c v l = .next t → t.out = v ∧
    t.req0 = 0 ∧ t.req1 = 0 ∧ t.req2 = 0 ∧ t.req3 = 0 ∧ statusWord t.status = 0 ∧ t.seq = .idle ∧ t.trace = [])

/-- 70_reset_and_hazards.md R280, R281: a block reset at any time gives the reset values, emits no event and holds every
line; a power-on reset differs only in what OUT is; then the block waits. That a reset leaves the framebuffer space alone is the
model's choice (DESIGN CHOICE, notes/assumptions/9.md). -/
def Obligations.ResetHoldsTheLinesAndWaits : Prop :=
  ∀ s : State,
    (∀ ms, s.schedule = .blockReset :: ms → ∃ t, step s = .next t ∧ t.out = s.out ∧
      t.req0 = 0 ∧ t.req1 = 0 ∧ t.req2 = 0 ∧ t.req3 = 0 ∧ statusWord t.status = 0 ∧ t.seq = .idle ∧ t.trace = [] ∧
      t.cfg = s.cfg ∧ t.fb = s.fb ∧ step { t with schedule := [] } = .next { t with schedule := [] }) ∧
    (∀ ms, s.schedule = .powerOn :: ms → ∃ t, step s = .next t ∧
      t.req0 = 0 ∧ t.req1 = 0 ∧ t.req2 = 0 ∧ t.req3 = 0 ∧ statusWord t.status = 0 ∧ t.seq = .idle ∧ t.trace = [] ∧
      t.cfg = s.cfg ∧ t.fb = s.fb ∧ step { t with schedule := [] } = .next { t with schedule := [] })

/-! ## The host's side -/

/-- 10_state.md R43: the fields of the word a read of `STATUS` returns; the read has no side effect, and a write is
ignored. -/
def Obligations.StatusReadsItsFields : Prop :=
  ∀ (s : State) (v : Word),
    let w := statusWord s.status
    w.getLsbD 0 = s.status.busy ∧ w.getLsbD 1 = s.status.initDone ∧ w.getLsbD 2 = s.status.fault.isSome ∧
    w.getLsbD 3 = false ∧ w.extractLsb' 8 24 = 0 ∧
    w.extractLsb' 4 4 = (match s.status.fault with
      | none => 0
      | some .illegalReq => 1
      | some .notInit => 2
      | some .reinit => 3
      | some .badWindow => 4
      | some .outOfRange => 5
      | some .bufOob => 6
      | some .busyViolation => 7) ∧
    hostRead (registerAddress s 0x10) 4 s = .next { s with readback := s.readback ++ [w] } ∧
    hostWrite (registerAddress s 0x10) 4 v s = .next s

/-- 10_state.md R41, R42: while no request is in progress a write to `REQ1`, `REQ2` or `REQ3` only stores, and a read returns
the value last written; reserved offsets read 0 and ignore writes; an access that is not an aligned 32-bit word is refused.
The host's record of what it read is the model's own (notes/assumptions/22.md). That alignment is measured from `REG_BASE` is
the model's reading (DEDUCED, notes/assumptions/11.md). -/
def Obligations.RequestRegistersReadBack : Prop :=
  ∀ (s : State) (v : Word), s.status.busy = false →
    hostWrite (registerAddress s 0x04) 4 v s = .next { s with req1 := v } ∧
    hostWrite (registerAddress s 0x08) 4 v s = .next { s with req2 := v } ∧
    hostWrite (registerAddress s 0x0C) 4 v s = .next { s with req3 := v } ∧
    (startRequest v s).req0 = v ∧
    hostRead (registerAddress s 0x00) 4 s = .next { s with readback := s.readback ++ [s.req0] } ∧
    hostRead (registerAddress s 0x04) 4 s = .next { s with readback := s.readback ++ [s.req1] } ∧
    hostRead (registerAddress s 0x08) 4 s = .next { s with readback := s.readback ++ [s.req2] } ∧
    hostRead (registerAddress s 0x0C) 4 s = .next { s with readback := s.readback ++ [s.req3] } ∧
    (∀ off, 0x14 ≤ off → off < 0x40 → off % 4 = 0 →
      hostRead (registerAddress s off) 4 s = .next { s with readback := s.readback ++ [0] } ∧
      hostWrite (registerAddress s off) 4 v s = .next s) ∧
    (∀ off bytes, off < 0x40 → (bytes ≠ 4 ∨ off % 4 ≠ 0) →
      hostRead (registerAddress s off) bytes s = .refused .notAlignedWord ∧
      hostWrite (registerAddress s off) bytes v s = .refused .notAlignedWord)

/-- 20_memory.md R71, R73, 60_exceptions.md R262: the byte the host provides is the byte read there, every other address
reads as before; the buffer of a RENDER in progress cannot be changed: the host has no such move, which the model refuses by
name. The addresses of the bytes a launch is given are `BUFMEM`, each reads as its byte, of two bytes for one address the
later, and no other address is readable (notes/assumptions/9.md, 10.md). -/
def Obligations.ProvidedBytesReadBack : Prop :=
  (∀ (c : Config) (v : Word) (l : List (Word × Byte)) (t : State), launch c v l = .next t →
    Memory.wf t.fb = true ∧
    (∀ a : Nat, t.fb.read a = (l.reverse.find? fun p => p.1.toNat == a).map Prod.snd) ∧
    (∀ a : Nat, (t.fb.read a).isSome = true ↔ ∃ p ∈ l, p.1.toNat = a)) ∧
  ∀ (s : State) (a : Word) (v : Byte),
    (bufferBusy s a.toNat = false → ∃ t, provide a v s = .next t ∧ t = { s with fb := t.fb } ∧
      ∀ b : Nat, t.fb.read b = if b = a.toNat then some v else s.fb.read b) ∧
    (bufferBusy s a.toNat = false → Memory.wf s.fb = true → ∃ t, withdraw a s = .next t ∧ t = { s with fb := t.fb } ∧
      ∀ b : Nat, t.fb.read b = if b = a.toNat then none else s.fb.read b) ∧
    (s.status.busy = true → s.latches.op = 3 → s.latches.buf.toNat ≤ a.toNat →
      a.toNat < s.latches.buf.toNat + pixelCount s.latches →
      provide a v s = .refused .bufferInUse ∧ withdraw a s = .refused .bufferInUse)

/-- 20_memory.md R85: another agent's write to lines outside the 21 signals leaves everything the block drives and all its
state as it was; where it fell is recorded beside the trace, the model's own record (notes/assumptions/29.md). -/
def Obligations.OtherAgentsDoNotDisturbTheBlock : Prop :=
  ∀ (s : State) (set clr : Word), (∀ p ∈ signalLines s.config.pins, levelOf set p = false ∧ levelOf clr p = false) →
    ∃ t, otherAgent set clr s = .next t ∧
      t = { s with out := t.out, others := s.others ++ [⟨s.trace.length, set, clr⟩] } ∧
      (∀ p ∈ signalLines s.config.pins, levelOf t.out p = levelOf s.out p) ∧
      dataWord s.config.pins t.out = dataWord s.config.pins s.out

/-- 30_encoding.md R113: a `CMD` line emits what BEGIN emits for the same group. -/
def Obligations.CmdLineEmitsItsGroup : Prop :=
  ∀ (s : State) (c : Byte) (ps : List Byte), Ready s →
    ∃ t, execAll (lineRequests (.cmd c.toNat (ps.map BitVec.toNat))) s = .next t ∧ Ready t ∧
      t.trace = s.trace ++ (groupTxs ⟨c, ps⟩).flatMap (byteEvents s.config)

/-- 10_state.md R49: a write that changes no line is unobservable, wherever it stands, and so it is among other agents' writes:
those before it (`early`) and those after it (`late`, each one event earlier without it) stay where they fell. In a run, a step
with one event adds to what has been seen nothing where the event changes no line, OUT after it where it changes one, and a
delay's marker. That a value's predecessor is OUT just before its event is the model's reading where other agents write
(notes/assumptions/29.md). -/
def Obligations.NoChangeWritesAreUnobservable : Prop :=
  (∀ (pins : Pins) (v : Word) (before after : List Event) (e : Event), (∀ n, e ≠ .delay n) →
    outAfter (replay v before) e = replay v before →
    waveform v (before ++ e :: after) = waveform v (before ++ after) ∧
    latched pins v (before ++ e :: after) = latched pins v (before ++ after)) ∧
  (∀ (early late : List OtherWrite) (v : Word) (before after : List Event) (e : Event), (∀ n, e ≠ .delay n) →
    (∀ w ∈ early, w.index ≤ before.length) → (∀ w ∈ late, before.length < w.index) →
    outAfter (endOut early 0 v before) e = endOut early 0 v before →
    samples (timeline (early ++ late) 0 v (before ++ e :: after)) =
      samples (timeline (early ++ late.map fun w => { w with index := w.index - 1 }) 0 v (before ++ after))) ∧
  (∀ (s t : State) (e : Event), historyExplainsOut s = true → traceExplainsLines s = true → step s = .next t →
    t.trace = s.trace ++ [e] →
    (∀ n, e = .delay n → (seenSoFar t).1 = (seenSoFar s).1 ++ [.atLeastMs n]) ∧
    ((∀ n, e ≠ .delay n) → t.out = s.out → seenSoFar t = seenSoFar s) ∧
    ((∀ n, e ≠ .delay n) → t.out ≠ s.out → (seenSoFar t).1 = (seenSoFar s).1 ++ [.level t.out]))

/-! ## Steps -/

/-- When the host hands over a descriptor that decodes to `i`, the step is `exec i`, with the move taken off the schedule and
`REQ0` written; one that decodes to none is answered as a write of `REQ0` is (a call is the model's own move,
notes/assumptions/6.md); and the host's fetch word does so on the very next step (notes/assumptions/8.md). -/
def Obligations.StepRunsTheDecodedRequest : Prop :=
  (∀ (s : State) (v : Word) (ms : List HostMove) (i : Instr), s.schedule = .call v :: ms →
    decode ⟨v, s.req1, s.req2, s.req3⟩ = .ok i → step s = exec i { s with schedule := ms, req0 := v }) ∧
  (∀ (s : State) (v : Word) (ms : List HostMove) (e : DecodeError), s.schedule = .call v :: ms →
    decode ⟨v, s.req1, s.req2, s.req3⟩ = .error e → step s = .next (startRequest v { s with schedule := ms })) ∧
  (∀ (s : State) (nbits w : Nat) (i : Instr), decodeTableWord nbits w = some i →
    step (s.withFetchWord nbits w) = exec i { s.withFetchWord nbits w with
      schedule := s.schedule, req0 := (descriptorOfNat nbits w).req0 })

/-- Event by event or whole: a quiet block whose `REQ0` is written, and which is then left alone, reaches exactly the state
that the whole request gives, the model's two ways of running a request being one (notes/assumptions/6.md; 10_state.md R45;
40_bus_primitive.md R145; 41_panel_init.md R171; 42_addr_window.md R201; 43_pixel_stream.md R221; 92_eei_decisions.md D41). -/
def Obligations.EventByEventRunIsTheWholeRequest : Prop :=
  ∀ (s : State) (v : Word), Quiet s →
    ∃ k, Sys2Proof.core.run (k + 1) { s with schedule := [.write (registerAddress s 0x00) 4 v] } =
      step { s with schedule := [.call v] }

/-- 60_exceptions.md R257, R264: left alone, a request in progress ends, from every position. -/
def Obligations.RequestsInProgressEnd : Prop :=
  ∀ s : State, SeqInv s = true → s.status.busy = true → s.schedule = [] →
    ∃ k t, Sys2Proof.core.run k s = .next t ∧ t.status.busy = false ∧ (t.seq = .idle ∨ t.seq = .faulted)

/-! ## Invariants -/

/-- The invariants hold at reset; and at every launch, the lines at any value, the trace and the other agents' writes explain
OUT. -/
def Obligations.ResetMeetsTheInvariants : Prop :=
  SeqInv State.reset = true ∧ levelsFit State.reset = true ∧ pulseFirst State.reset = true ∧
  traceExplainsLines State.reset = true ∧ historyExplainsOut State.reset = true ∧
  ∀ (c : Config) (v : Word) (l : List (Word × Byte)) (t : State), launch c v l = .next t → historyExplainsOut t = true

/-- Every step keeps the position, the fault record and the memory's canonical form (10_state.md R45; 60_exceptions.md R252;
43_pixel_stream.md R222). -/
def Obligations.StepKeepsThePositionInvariant : Prop :=
  ∀ s t : State, SeqInv s = true → step s = .next t → SeqInv t = true

/-- From a state that meets the invariant no step ends in the fault `sequencerLost`, the model's own name for a position the
phase lists do not reach (DESIGN CHOICE, notes/assumptions/25.md; 10_state.md R45). A step is stopped by a refused host move and
by nothing else, each kind of move under its own names (10_state.md R41, 60_exceptions.md R262, 20_memory.md R85;
notes/assumptions/10.md, 11.md). -/
def Obligations.StepNeverLosesTheSequencer : Prop :=
  ∀ s : State, SeqInv s = true →
    (∀ r : Fault, step s ≠ .fault r) ∧
    ((∃ t, step s = .next t) ∨
      ∃ m ms r, s.schedule = m :: ms ∧ step s = .refused r ∧
        match m with
        | .read _ _ => r = .notAlignedWord ∨ r = .outsideRegisterBlock
        | .write _ _ _ => r = .notAlignedWord ∨ r = .outsideRegisterBlock
        | .provide _ _ => r = .bufferInUse
        | .withdraw _ => r = .bufferInUse
        | .otherAgent _ _ => r = .signalLineOwned
        | _ => False)

/-- Every step keeps the lines as the position says: DC stable and the word on the lines during a transfer, DC high during
the stream, RST low only inside the pulse (40_bus_primitive.md R141, R148; 43_pixel_stream.md R225;
70_reset_and_hazards.md R282, R293). That RST stays high while the block is idle rests on other agents keeping off the signal
lines between requests, the model's choice (DESIGN CHOICE, notes/assumptions/10.md). -/
def Obligations.StepKeepsTheLineLevels : Prop :=
  ∀ s t : State, SeqInv s = true → levelsFit s = true → step s = .next t → levelsFit t = true

/-- Every step keeps it that no transfer stands in the trace before the reset pulse has completed
(70_reset_and_hazards.md R296). -/
def Obligations.StepKeepsThePulseFirst : Prop :=
  ∀ s t : State, SeqInv s = true → pulseFirst s = true → step s = .next t → pulseFirst t = true

/-- Every step keeps it that the trace explains the signal lines: nothing but the block's own events moves them
(10_state.md R30; 20_memory.md R85). R85 speaks of requests only: that nothing else moves them between requests is the model's
choice (DESIGN CHOICE, notes/assumptions/10.md), and so is the value the replay begins from (DEDUCED,
notes/assumptions/23.md). -/
def Obligations.StepKeepsTheTraceExplainingTheLines : Prop :=
  ∀ s t : State, traceExplainsLines s = true → step s = .next t → traceExplainsLines t = true

/-! ## The observation of a run -/

/-- 60_exceptions.md R253: a state that holds a fault is not final and has no observation, and until a reset no later state of
the run is or has; a state with `BUSY = 0` and no fault is final, and its observation is what has been seen of the run. What
makes a state final beside R253's words is the model's choice (notes/assumptions/30.md). -/
def Obligations.FaultedStateIsNeverFinal : Prop :=
  (∀ s : State, s.status.fault.isSome = true →
    isFinal s = false ∧ observation s = none ∧
    (∀ t, resetNext s = false → step s = .next t → isFinal t = false ∧ observation t = none) ∧
    (∀ (k : Nat) (t : State), (∀ m ∈ s.schedule, isReset m = false) → Sys2Proof.core.run k s = .next t →
      isFinal t = false ∧ observation t = none)) ∧
  (∀ s : State, Quiet s → isFinal s = true ∧ observation s = some (seenSoFar s))

/-- Every step keeps it that the trace and the other agents' writes, each where it fell, explain every line of OUT
(10_state.md R30, R49; 20_memory.md R83, R85). So the values from which the waveform is computed are those OUT really takes: a
step that emits one event adds the value of OUT after it, and a step that emits none, but for a reset, adds nothing. The record
of the other agents' writes is the model's own (notes/assumptions/29.md), and so is the value the run began from (DEDUCED,
notes/assumptions/23.md). -/
def Obligations.StepKeepsTheHistoryExplainingOut : Prop :=
  ∀ s t : State, historyExplainsOut s = true → step s = .next t →
    historyExplainsOut t = true ∧
    (∀ e : Event, t.trace = s.trace ++ [e] → outHistory t = outHistory s ++ [t.out]) ∧
    (resetNext s = false → t.trace = s.trace → outHistory t = outHistory s)

/-! ## The host moves of a line -/

/-- 30_encoding.md R112, R113: how a line is run. Every line of requests, BEGIN among them, is the moves of its requests in
order. The moves of a request let the block go on while `BUSY = 1`; then, in five steps, they store the descriptor and start
the request. `WAIT` lets the block go on until `BUSY = 0`. `WAIT` and `WAITMS` change nothing at a block with `BUSY = 0`. That
all four words are written is DEDUCED (notes/assumptions/19.md), and how long `WAITMS` is open (notes/assumptions/20.md). That
`readback` gains no word from the reads of `STATUS` by which the host waits, before a request and in `WAIT`, is the model's
choice: R113 leaves their number open (DESIGN CHOICE, notes/assumptions/22.md). -/
def Obligations.LineMovesPerformTheLine : Prop :=
  (lineRequests .begin = [.begin] ∧ lineRequests .wait = [] ∧ ∀ n, lineRequests (.waitMs n) = []) ∧
  (∀ (base : Nat) (l : AsmLine), l ≠ .wait → (∀ n, l ≠ .waitMs n) →
    lineMoves base l = (lineRequests l).flatMap (requestMoves base)) ∧
  (∀ (s : State) (i : Instr) (ms : List HostMove), s.status.busy = false →
    s.schedule = requestMoves s.config.regBase.toNat i ++ ms →
    let d := encode i
    Sys2Proof.core.run 5 s =
      .next (startRequest d.req0 { s with req1 := d.req1, req2 := d.req2, req3 := d.req3, schedule := ms })) ∧
  (∀ (s : State) (base : Nat) (i : Instr) (ms : List HostMove), s.status.busy = true →
    (s.schedule = requestMoves base i ++ ms ∨ s.schedule = lineMoves base .wait ++ ms) → step s = advance s) ∧
  (∀ (s : State) (base : Nat) (ms : List HostMove), s.status.busy = false → s.schedule = lineMoves base .wait ++ ms →
    step s = .next { s with schedule := ms }) ∧
  (∀ (s : State) (base n : Nat) (ms : List HostMove), s.status.busy = false →
    s.schedule = lineMoves base (.waitMs n) ++ ms →
    Sys2Proof.core.run (Config.stepsInMs n) s = .next { s with schedule := ms })
end

