-- ==== Sys2Proof/Laws/Lines.lean ====
section
/-! SUPPORT. The GPIO state read line by line: levels of masks, of placed words, of the data word. -/

namespace Sys2Proof.Machine

/-! ## Levels of bitwise operations -/

theorem levelOf_or (a b : Word) (p : Line) : levelOf (a ||| b) p = (levelOf a p || levelOf b p) := by
  simp [levelOf]

theorem levelOf_and (a b : Word) (p : Line) : levelOf (a &&& b) p = (levelOf a p && levelOf b p) := by
  simp [levelOf]

theorem levelOf_not (a : Word) (p : Line) : levelOf (~~~a) p = !levelOf a p := by
  simp [levelOf, p.isLt]

theorem levelOf_zero (p : Line) : levelOf 0#32 p = false := by
  simp [levelOf]

theorem levelOf_lineBit (p q : Line) : levelOf (lineBit p) q = decide (q = p) := by
  simp only [levelOf, lineBit, BitVec.getLsbD_shiftLeft, BitVec.getLsbD_one, q.isLt, decide_true, Bool.true_and]
  by_cases h : q = p
  · subst h; simp
  · have : q.val ≠ p.val := fun e => h (Fin.ext e)
    have h2 : ¬(q.val < p.val) → q.val - p.val ≠ 0 := by omega
    by_cases hlt : q.val < p.val <;> simp [h, hlt, h2]

theorem levelOf_withLine (s : Word) (p q : Line) (v : Bool) :
    levelOf (withLine s p v) q = if q = p then v else levelOf s q := by
  unfold withLine
  cases v <;> by_cases h : q = p <;> simp [levelOf_or, levelOf_and, levelOf_not, levelOf_lineBit, h]

theorem levelOf_applyMasks (s set clr : Word) (p : Line) :
    levelOf (applyMasks s set clr) p = ((levelOf s p || levelOf set p) && !levelOf clr p) := by
  simp [applyMasks, levelOf_or, levelOf_and, levelOf_not]

/-- Two GPIO states with the same level on every line are equal. -/
theorem word_ext_level {a b : Word} (h : ∀ p : Line, levelOf a p = levelOf b p) : a = b := by
  apply BitVec.eq_of_getLsbD_eq
  intro i hi
  exact h ⟨i, hi⟩

/-! ## Placed words -/

theorem levelOf_placeFrom_notMem (ps : List Line) (k : Nat) (w : BusWord) (q : Line) (h : q ∉ ps) :
    levelOf (placeFrom ps k w) q = false := by
  induction ps generalizing k with
  | nil => simp [placeFrom, levelOf_zero]
  | cons p ps ih =>
    simp only [List.mem_cons, not_or] at h
    simp only [placeFrom, levelOf_or, ih (k + 1) h.2, Bool.or_false]
    split <;> simp [levelOf_lineBit, levelOf_zero, h.1]

theorem levelOf_placeFrom_getElem (ps : List Line) (k : Nat) (w : BusWord) (hn : ps.Nodup) (j : Nat) (hj : j < ps.length) :
    levelOf (placeFrom ps k w) ps[j] = w.getLsbD (k + j) := by
  induction ps generalizing k j with
  | nil => simp at hj
  | cons p ps ih =>
    rw [List.nodup_cons] at hn
    cases j with
    | zero =>
      simp only [placeFrom, levelOf_or, List.getElem_cons_zero, levelOf_placeFrom_notMem ps _ w p hn.1, Bool.or_false,
        Nat.add_zero]
      split <;> simp_all [levelOf_lineBit, levelOf_zero]
    | succ j =>
      have hj' : j < ps.length := by simpa using hj
      have hne : ps[j] ≠ p := fun e => hn.1 (e ▸ List.getElem_mem hj')
      simp only [placeFrom, levelOf_or, List.getElem_cons_succ, ih (k + 1) hn.2 j hj']
      have : levelOf (if w.getLsbD k then lineBit p else 0) ps[j] = false := by
        split <;> simp [levelOf_lineBit, levelOf_zero, hne]
      rw [this, Bool.false_or, Nat.add_right_comm, Nat.add_assoc]

/-- `place(w)` has no line outside the data lines. -/
theorem levelOf_place_notData (pins : Pins) (w : BusWord) (q : Line) (h : q ∉ pins.d.toList) :
    levelOf (place pins w) q = false := levelOf_placeFrom_notMem _ _ _ _ h

/-- Bit `k` of `w` is the level of line `PIN_D[k]` in `place(w)`. -/
theorem levelOf_place_data (pins : Pins) (w : BusWord) (hn : pins.d.toList.Nodup) (k : Nat) (hk : k < pins.d.toList.length) :
    levelOf (place pins w) pins.d.toList[k] = w.getLsbD k := by
  rw [place, levelOf_placeFrom_getElem _ _ _ hn, Nat.zero_add]

theorem dataLines_length (pins : Pins) : pins.d.toList.length = 16 := by simp

/-- The data mask names exactly the data lines. -/
theorem levelOf_dataMask (pins : Pins) (hn : pins.d.toList.Nodup) (q : Line) :
    levelOf (dataMask pins) q = decide (q ∈ pins.d.toList) := by
  by_cases h : q ∈ pins.d.toList
  · obtain ⟨k, hk, rfl⟩ := List.getElem_of_mem h
    have h16 : k < 16 := dataLines_length pins ▸ hk
    have hall : ∀ k : Fin 16, (0xFFFF#16).getLsbD k = true := by decide
    rw [dataMask, levelOf_place_data _ _ hn _ hk]
    simpa [h] using hall ⟨k, h16⟩
  · simp [dataMask, levelOf_place_notData _ _ _ h, h]

/-! ## The data word -/

theorem dataFrom_getLsbD (ps : List Line) (k : Nat) (s : Word) (j : Nat) (hj : j < 16) (hlen : k + ps.length ≤ 16) :
    (dataFrom ps k s).getLsbD j = if h : k ≤ j ∧ j - k < ps.length then levelOf s (ps[j - k]'h.2) else false := by
  induction ps generalizing k with
  | nil => simp [dataFrom]
  | cons p ps ih =>
    simp only [List.length_cons] at hlen
    simp only [dataFrom, BitVec.getLsbD_or, ih (k + 1) (by omega), List.length_cons]
    have h1 : (if levelOf s p then 1#16 <<< k else 0).getLsbD j = (levelOf s p && decide (j = k)) := by
      split
      · simp only [BitVec.getLsbD_shiftLeft, BitVec.getLsbD_one, decide_true, Bool.true_and, *]
        by_cases hlt : j < k
        · simp [hlt, show j ≠ k by omega]
        · by_cases he : j = k
          · simp [he]
          · simp [he, hlt, show j - k ≠ 0 by omega]
      · simp_all
    rw [h1]
    by_cases he : j = k
    · subst he; simp
    · by_cases hlt : j < k
      · simp [he, show ¬(k + 1 ≤ j) by omega, show ¬(k ≤ j) by omega]
      · obtain ⟨i, rfl⟩ : ∃ i, j = k + 1 + i := ⟨j - k - 1, by omega⟩
        simp [he, show k + 1 + i - k = i + 1 by omega, show k ≤ k + 1 + i by omega]

/-- Bit `k` of `D(s)` is the level of line `PIN_D[k]` (00_scope.md R13). -/
theorem dataWord_getLsbD (pins : Pins) (s : Word) (k : Nat) (hk : k < pins.d.toList.length) :
    (dataWord pins s).getLsbD k = levelOf s pins.d.toList[k] := by
  have h16 : k < 16 := dataLines_length pins ▸ hk
  rw [dataWord, dataFrom_getLsbD _ _ _ _ h16 (by simp)]
  simp only [Nat.zero_le, Nat.sub_zero, true_and, dif_pos hk]

/-- GPIO states that agree on the data lines present the same bus word. -/
theorem dataWord_congr (pins : Pins) {a b : Word} (h : ∀ p ∈ pins.d.toList, levelOf a p = levelOf b p) :
    dataWord pins a = dataWord pins b := by
  apply BitVec.eq_of_getLsbD_eq
  intro i hi
  have hk : i < pins.d.toList.length := by simpa using hi
  rw [dataWord_getLsbD _ _ _ hk, dataWord_getLsbD _ _ _ hk, h _ (List.getElem_mem hk)]

/-- A GPIO state that agrees with `place(w)` on the data lines presents `w`. -/
theorem dataWord_eq_of_place (pins : Pins) (hn : pins.d.toList.Nodup) (s : Word) (w : BusWord)
    (h : ∀ p ∈ pins.d.toList, levelOf s p = levelOf (place pins w) p) : dataWord pins s = w := by
  apply BitVec.eq_of_getLsbD_eq
  intro i hi
  have hk : i < pins.d.toList.length := by simpa using hi
  rw [dataWord_getLsbD _ _ _ hk, h _ (List.getElem_mem hk), levelOf_place_data _ _ hn _ hk]

/-! ## Distinct pins -/

theorem dataLines_nodup {pins : Pins} (h : (signalLines pins).Nodup) : pins.d.toList.Nodup :=
  (List.nodup_append.1 h).1

/-- The five control lines are no data lines, and differ from each other. -/
theorem controlLines_distinct {pins : Pins} (h : (signalLines pins).Nodup) :
    (pins.dc ∉ pins.d.toList ∧ pins.wr ∉ pins.d.toList ∧ pins.rst ∉ pins.d.toList ∧ pins.cs ∉ pins.d.toList ∧
      pins.bl ∉ pins.d.toList) ∧
    pins.dc ≠ pins.wr ∧ pins.dc ≠ pins.rst ∧ pins.dc ≠ pins.cs ∧ pins.dc ≠ pins.bl ∧
    pins.wr ≠ pins.rst ∧ pins.wr ≠ pins.cs ∧ pins.wr ≠ pins.bl ∧ pins.rst ≠ pins.cs ∧ pins.rst ≠ pins.bl ∧
    pins.cs ≠ pins.bl := by
  obtain ⟨-, h2, h3⟩ := List.nodup_append.1 h
  simp only [List.nodup_cons, List.mem_cons, List.not_mem_nil, or_false, not_or] at h2
  refine ⟨⟨?_, ?_, ?_, ?_, ?_⟩, ?_⟩
  · exact fun e => h3 _ e pins.dc (by simp) rfl
  · exact fun e => h3 _ e pins.wr (by simp) rfl
  · exact fun e => h3 _ e pins.rst (by simp) rfl
  · exact fun e => h3 _ e pins.cs (by simp) rfl
  · exact fun e => h3 _ e pins.bl (by simp) rfl
  · tauto

end Sys2Proof.Machine
end

