-- ==== Sys2Proof/Laws/Board.lean ====
section
/-! SUPPORT. What the configuration check says of a board, in the form proofs use. -/

namespace Sys2Proof.Machine

theorem mem_allBytes (b : Byte) : b ∈ allBytes := by
  simp only [allBytes, List.mem_map, List.mem_range]
  exact ⟨b.toNat, b.isLt, by simp⟩

/-- The five parts of the configuration check. -/
theorem configAdmitted_iff (c : Config) : configAdmitted c = true ↔
    (signalLines c.pins).Nodup ∧ initSeqStructured c.initSeq = true ∧ 1 ≤ c.unroll ∧
    (∀ b : Byte, encodes c.pins (lutRead c .cmdSet b) (lutRead c .cmdClr b) (cmdWord b) = true) ∧
    (∀ i : Byte, encodes c.pins (lutRead c .colSet i) (lutRead c .colClr i) (paletteOf c i) = true) := by
  simp only [configAdmitted, pinsDistinct, commandTablesEncode, colourTablesEncode, Bool.and_eq_true, decide_eq_true_eq,
    List.all_eq_true, and_assoc]
  constructor
  · rintro ⟨a, b, c, d, e⟩; exact ⟨a, b, c, fun x => d x (mem_allBytes x), fun x => e x (mem_allBytes x)⟩
  · rintro ⟨a, b, c, d, e⟩; exact ⟨a, b, c, fun x _ => d x, fun x _ => e x⟩

theorem Board.nodup (b : Board) : (signalLines b.cfg.pins).Nodup := ((configAdmitted_iff _).1 b.ok).1

theorem Board.initStructured (b : Board) : initSeqStructured b.cfg.initSeq = true := ((configAdmitted_iff _).1 b.ok).2.1

theorem Board.unroll_pos (b : Board) : 1 ≤ b.cfg.unroll := ((configAdmitted_iff _).1 b.ok).2.2.1

theorem Board.command_encodes (b : Board) (i : Byte) :
    encodes b.cfg.pins (lutRead b.cfg .cmdSet i) (lutRead b.cfg .cmdClr i) (cmdWord i) = true :=
  ((configAdmitted_iff _).1 b.ok).2.2.2.1 i

theorem Board.colour_encodes (b : Board) (i : Byte) :
    encodes b.cfg.pins (lutRead b.cfg .colSet i) (lutRead b.cfg .colClr i) (paletteOf b.cfg i) = true :=
  ((configAdmitted_iff _).1 b.ok).2.2.2.2 i

end Sys2Proof.Machine
end

