-- ==== Sys2Proof/Laws/Memory.lean ====
section
/-! SUPPORT. The canonical form of the framebuffer space, and that every operation on it keeps it. -/

namespace Sys2Proof.Machine

/-- Canonical form, cell by cell: the first address is below the next, and the rest is canonical. -/
theorem Memory.wf_cons (c : Host.Cell) (m : Memory) :
    Memory.wf (c :: m) = true ↔
      c.1 < 2 ^ 32 ∧ (∀ d ∈ m.head?, c.1 < d.1) ∧ Memory.wf m = true := by
  induction m generalizing c with
  | nil => simp [Memory.wf]
  | cons d m ih =>
    have hd := ih d
    simp only [Memory.wf, Bool.and_eq_true, decide_eq_true_eq, List.head?_cons, Option.mem_def, Option.some.injEq,
      forall_eq', hd]
    constructor
    · rintro ⟨h, h2, h3⟩; exact ⟨by omega, h, h2, h3⟩
    · rintro ⟨-, h, h2, h3⟩; exact ⟨h, h2, h3⟩

/-- In canonical form every later address is above the first. -/
theorem Memory.wf_lt (c : Host.Cell) (m : Memory) (h : Memory.wf (c :: m) = true) : ∀ d ∈ m, c.1 < d.1 := by
  induction m generalizing c with
  | nil => simp
  | cons e m ih =>
    rw [Memory.wf_cons] at h
    have he : c.1 < e.1 := h.2.1 e (by simp)
    intro d hd
    rcases List.mem_cons.1 hd with rfl | hd
    · exact he
    · exact Nat.lt_trans he (ih e h.2.2 d hd)

/-- The first address after a write is the old first address or the address written. -/
theorem Memory.head_write (m : Memory) (a : Nat) (v : Byte) (d : Host.Cell) (hd : d ∈ (Memory.write m a v).head?) :
    d.1 = a ∨ d ∈ m.head? := by
  cases m with
  | nil => simp [Memory.write] at hd; exact .inl (by rw [← hd])
  | cons c m =>
    simp only [Memory.write] at hd
    split at hd
    · simp at hd; exact .inl (by rw [← hd])
    · split at hd
      · simp at hd; exact .inl (by rw [← hd])
      · simp at hd; exact .inr (by simp [hd])

/-- A write keeps the canonical form. -/
theorem Memory.wf_write (m : Memory) (a : Nat) (v : Byte) (ha : a < 2 ^ 32) (h : Memory.wf m = true) :
    Memory.wf (Memory.write m a v) = true := by
  induction m with
  | nil => simpa [Memory.write, Memory.wf] using ha
  | cons c m ih =>
    have hc := (Memory.wf_cons c m).1 h
    simp only [Memory.write]
    split
    · rw [Memory.wf_cons]; exact ⟨ha, by simpa using ‹a < c.1›, h⟩
    · split
      · rename_i he
        rw [Memory.wf_cons]; exact ⟨ha, by simpa [he] using hc.2.1, hc.2.2⟩
      · rw [Memory.wf_cons]
        refine ⟨hc.1, ?_, ih hc.2.2⟩
        intro d hd
        rcases Memory.head_write m a v d hd with hda | hdm
        · omega
        · exact hc.2.1 d hdm

/-- Taking an address out keeps the canonical form. -/
theorem Memory.wf_erase (m : Memory) (a : Nat) (h : Memory.wf m = true) : Memory.wf (Memory.erase m a) = true := by
  induction m with
  | nil => rfl
  | cons c m ih =>
    have hc := (Memory.wf_cons c m).1 h
    simp only [Memory.erase]
    split
    · exact hc.2.2
    · rw [Memory.wf_cons]
      refine ⟨hc.1, ?_, ih hc.2.2⟩
      intro d hd
      have hmem : d ∈ m := by
        cases m with
        | nil => simp [Memory.erase] at hd
        | cons e m =>
          simp only [Memory.erase] at hd
          split at hd
          · exact List.mem_cons_of_mem _ (List.mem_of_mem_head? hd)
          · simp at hd; simp [hd]
      exact Memory.wf_lt c m h d hmem

/-- The host's two moves on the framebuffer keep the canonical form. -/
theorem provide_keeps_wf (a : Word) (v : Byte) (s t : State) (h : Memory.wf s.fb = true) (hs : provide a v s = .next t) :
    Memory.wf t.fb = true := by
  unfold provide at hs
  split at hs
  · cases hs
  · cases hs; exact Memory.wf_write _ _ _ a.isLt h

theorem withdraw_keeps_wf (a : Word) (s t : State) (h : Memory.wf s.fb = true) (hs : withdraw a s = .next t) :
    Memory.wf t.fb = true := by
  unfold withdraw at hs
  split at hs
  · cases hs
  · cases hs; exact Memory.wf_erase _ _ h

/-- Storing 32-bit addresses one after another keeps the canonical form. -/
theorem Memory.wf_foldl_write (l : List (Word × Byte)) (m : Memory) (h : Memory.wf m = true) :
    Memory.wf (l.foldl (fun m p => m.write p.1.toNat p.2) m) = true := by
  induction l generalizing m with
  | nil => exact h
  | cons p l ih => exact ih _ (Memory.wf_write m _ _ p.1.isLt h)

/-- The memory a launch is given is in canonical form. -/
theorem Memory.wf_ofBytes (l : List (Word × Byte)) : Memory.wf (Memory.ofBytes l) = true := Memory.wf_foldl_write l [] rfl

/-- Reset memory is in canonical form. -/
theorem reset_memory_wf : Memory.wf State.reset.fb = true := rfl

end Sys2Proof.Machine
end

