-- ==== Sys2Proof/Laws/State.lean ====
section
/-! SUPPORT. What each shared operation does to each field of State, one lemma a field: later proofs cite these and unfold no
record update. -/

namespace Sys2Proof.Machine

variable (s : State)

/-! ### emit -/

@[simp] theorem emit_config (e : Event) : (emit e s).config = s.config := rfl
@[simp] theorem emit_cfg (e : Event) : (emit e s).cfg = s.cfg := rfl
@[simp] theorem emit_out (e : Event) : (emit e s).out = s.out := rfl
@[simp] theorem emit_req0 (e : Event) : (emit e s).req0 = s.req0 := rfl
@[simp] theorem emit_req1 (e : Event) : (emit e s).req1 = s.req1 := rfl
@[simp] theorem emit_req2 (e : Event) : (emit e s).req2 = s.req2 := rfl
@[simp] theorem emit_req3 (e : Event) : (emit e s).req3 = s.req3 := rfl
@[simp] theorem emit_status (e : Event) : (emit e s).status = s.status := rfl
@[simp] theorem emit_seq (e : Event) : (emit e s).seq = s.seq := rfl
@[simp] theorem emit_latches (e : Event) : (emit e s).latches = s.latches := rfl
@[simp] theorem emit_total (e : Event) : (emit e s).total = s.total := rfl
@[simp] theorem emit_sent (e : Event) : (emit e s).sent = s.sent := rfl
@[simp] theorem emit_pixel (e : Event) : (emit e s).pixel = s.pixel := rfl
@[simp] theorem emit_trace (e : Event) : (emit e s).trace = s.trace ++ [e] := rfl
@[simp] theorem emit_startOut (e : Event) : (emit e s).startOut = s.startOut := rfl
@[simp] theorem emit_others (e : Event) : (emit e s).others = s.others := rfl
@[simp] theorem emit_faultAt (e : Event) : (emit e s).faultAt = s.faultAt := rfl
@[simp] theorem emit_fb (e : Event) : (emit e s).fb = s.fb := rfl
@[simp] theorem emit_schedule (e : Event) : (emit e s).schedule = s.schedule := rfl
@[simp] theorem emit_readback (e : Event) : (emit e s).readback = s.readback := rfl
@[simp] theorem emit_draws (e : Event) : (emit e s).draws = s.draws := rfl

/-! ### gpioSet -/

@[simp] theorem gpioSet_config (m : Word) : (gpioSet m s).config = s.config := rfl
@[simp] theorem gpioSet_cfg (m : Word) : (gpioSet m s).cfg = s.cfg := rfl
@[simp] theorem gpioSet_out (m : Word) : (gpioSet m s).out = s.out ||| m := rfl
@[simp] theorem gpioSet_req0 (m : Word) : (gpioSet m s).req0 = s.req0 := rfl
@[simp] theorem gpioSet_req1 (m : Word) : (gpioSet m s).req1 = s.req1 := rfl
@[simp] theorem gpioSet_req2 (m : Word) : (gpioSet m s).req2 = s.req2 := rfl
@[simp] theorem gpioSet_req3 (m : Word) : (gpioSet m s).req3 = s.req3 := rfl
@[simp] theorem gpioSet_status (m : Word) : (gpioSet m s).status = s.status := rfl
@[simp] theorem gpioSet_seq (m : Word) : (gpioSet m s).seq = s.seq := rfl
@[simp] theorem gpioSet_latches (m : Word) : (gpioSet m s).latches = s.latches := rfl
@[simp] theorem gpioSet_total (m : Word) : (gpioSet m s).total = s.total := rfl
@[simp] theorem gpioSet_sent (m : Word) : (gpioSet m s).sent = s.sent := rfl
@[simp] theorem gpioSet_pixel (m : Word) : (gpioSet m s).pixel = s.pixel := rfl
@[simp] theorem gpioSet_trace (m : Word) : (gpioSet m s).trace = s.trace ++ [.set m] := rfl
@[simp] theorem gpioSet_startOut (m : Word) : (gpioSet m s).startOut = s.startOut := rfl
@[simp] theorem gpioSet_others (m : Word) : (gpioSet m s).others = s.others := rfl
@[simp] theorem gpioSet_faultAt (m : Word) : (gpioSet m s).faultAt = s.faultAt := rfl
@[simp] theorem gpioSet_fb (m : Word) : (gpioSet m s).fb = s.fb := rfl
@[simp] theorem gpioSet_schedule (m : Word) : (gpioSet m s).schedule = s.schedule := rfl
@[simp] theorem gpioSet_readback (m : Word) : (gpioSet m s).readback = s.readback := rfl
@[simp] theorem gpioSet_draws (m : Word) : (gpioSet m s).draws = s.draws := rfl

/-! ### gpioClr -/

@[simp] theorem gpioClr_config (m : Word) : (gpioClr m s).config = s.config := rfl
@[simp] theorem gpioClr_cfg (m : Word) : (gpioClr m s).cfg = s.cfg := rfl
@[simp] theorem gpioClr_out (m : Word) : (gpioClr m s).out = s.out &&& ~~~m := rfl
@[simp] theorem gpioClr_req0 (m : Word) : (gpioClr m s).req0 = s.req0 := rfl
@[simp] theorem gpioClr_req1 (m : Word) : (gpioClr m s).req1 = s.req1 := rfl
@[simp] theorem gpioClr_req2 (m : Word) : (gpioClr m s).req2 = s.req2 := rfl
@[simp] theorem gpioClr_req3 (m : Word) : (gpioClr m s).req3 = s.req3 := rfl
@[simp] theorem gpioClr_status (m : Word) : (gpioClr m s).status = s.status := rfl
@[simp] theorem gpioClr_seq (m : Word) : (gpioClr m s).seq = s.seq := rfl
@[simp] theorem gpioClr_latches (m : Word) : (gpioClr m s).latches = s.latches := rfl
@[simp] theorem gpioClr_total (m : Word) : (gpioClr m s).total = s.total := rfl
@[simp] theorem gpioClr_sent (m : Word) : (gpioClr m s).sent = s.sent := rfl
@[simp] theorem gpioClr_pixel (m : Word) : (gpioClr m s).pixel = s.pixel := rfl
@[simp] theorem gpioClr_trace (m : Word) : (gpioClr m s).trace = s.trace ++ [.clr m] := rfl
@[simp] theorem gpioClr_startOut (m : Word) : (gpioClr m s).startOut = s.startOut := rfl
@[simp] theorem gpioClr_others (m : Word) : (gpioClr m s).others = s.others := rfl
@[simp] theorem gpioClr_faultAt (m : Word) : (gpioClr m s).faultAt = s.faultAt := rfl
@[simp] theorem gpioClr_fb (m : Word) : (gpioClr m s).fb = s.fb := rfl
@[simp] theorem gpioClr_schedule (m : Word) : (gpioClr m s).schedule = s.schedule := rfl
@[simp] theorem gpioClr_readback (m : Word) : (gpioClr m s).readback = s.readback := rfl
@[simp] theorem gpioClr_draws (m : Word) : (gpioClr m s).draws = s.draws := rfl

/-! ### lineWrite -/

@[simp] theorem lineWrite_config (p : Line) (v : Bool) : (lineWrite p v s).config = s.config := rfl
@[simp] theorem lineWrite_cfg (p : Line) (v : Bool) : (lineWrite p v s).cfg = s.cfg := rfl
@[simp] theorem lineWrite_out (p : Line) (v : Bool) : (lineWrite p v s).out = withLine s.out p v := rfl
@[simp] theorem lineWrite_req0 (p : Line) (v : Bool) : (lineWrite p v s).req0 = s.req0 := rfl
@[simp] theorem lineWrite_req1 (p : Line) (v : Bool) : (lineWrite p v s).req1 = s.req1 := rfl
@[simp] theorem lineWrite_req2 (p : Line) (v : Bool) : (lineWrite p v s).req2 = s.req2 := rfl
@[simp] theorem lineWrite_req3 (p : Line) (v : Bool) : (lineWrite p v s).req3 = s.req3 := rfl
@[simp] theorem lineWrite_status (p : Line) (v : Bool) : (lineWrite p v s).status = s.status := rfl
@[simp] theorem lineWrite_seq (p : Line) (v : Bool) : (lineWrite p v s).seq = s.seq := rfl
@[simp] theorem lineWrite_latches (p : Line) (v : Bool) : (lineWrite p v s).latches = s.latches := rfl
@[simp] theorem lineWrite_total (p : Line) (v : Bool) : (lineWrite p v s).total = s.total := rfl
@[simp] theorem lineWrite_sent (p : Line) (v : Bool) : (lineWrite p v s).sent = s.sent := rfl
@[simp] theorem lineWrite_pixel (p : Line) (v : Bool) : (lineWrite p v s).pixel = s.pixel := rfl
@[simp] theorem lineWrite_trace (p : Line) (v : Bool) : (lineWrite p v s).trace = s.trace ++ [.line p v] := rfl
@[simp] theorem lineWrite_startOut (p : Line) (v : Bool) : (lineWrite p v s).startOut = s.startOut := rfl
@[simp] theorem lineWrite_others (p : Line) (v : Bool) : (lineWrite p v s).others = s.others := rfl
@[simp] theorem lineWrite_faultAt (p : Line) (v : Bool) : (lineWrite p v s).faultAt = s.faultAt := rfl
@[simp] theorem lineWrite_fb (p : Line) (v : Bool) : (lineWrite p v s).fb = s.fb := rfl
@[simp] theorem lineWrite_schedule (p : Line) (v : Bool) : (lineWrite p v s).schedule = s.schedule := rfl
@[simp] theorem lineWrite_readback (p : Line) (v : Bool) : (lineWrite p v s).readback = s.readback := rfl
@[simp] theorem lineWrite_draws (p : Line) (v : Bool) : (lineWrite p v s).draws = s.draws := rfl

/-! ### delayMs -/

@[simp] theorem delayMs_config (n : Nat) : (delayMs n s).config = s.config := rfl
@[simp] theorem delayMs_cfg (n : Nat) : (delayMs n s).cfg = s.cfg := rfl
@[simp] theorem delayMs_out (n : Nat) : (delayMs n s).out = s.out := rfl
@[simp] theorem delayMs_req0 (n : Nat) : (delayMs n s).req0 = s.req0 := rfl
@[simp] theorem delayMs_req1 (n : Nat) : (delayMs n s).req1 = s.req1 := rfl
@[simp] theorem delayMs_req2 (n : Nat) : (delayMs n s).req2 = s.req2 := rfl
@[simp] theorem delayMs_req3 (n : Nat) : (delayMs n s).req3 = s.req3 := rfl
@[simp] theorem delayMs_status (n : Nat) : (delayMs n s).status = s.status := rfl
@[simp] theorem delayMs_seq (n : Nat) : (delayMs n s).seq = s.seq := rfl
@[simp] theorem delayMs_latches (n : Nat) : (delayMs n s).latches = s.latches := rfl
@[simp] theorem delayMs_total (n : Nat) : (delayMs n s).total = s.total := rfl
@[simp] theorem delayMs_sent (n : Nat) : (delayMs n s).sent = s.sent := rfl
@[simp] theorem delayMs_pixel (n : Nat) : (delayMs n s).pixel = s.pixel := rfl
@[simp] theorem delayMs_trace (n : Nat) : (delayMs n s).trace = s.trace ++ [.delay n] := rfl
@[simp] theorem delayMs_startOut (n : Nat) : (delayMs n s).startOut = s.startOut := rfl
@[simp] theorem delayMs_others (n : Nat) : (delayMs n s).others = s.others := rfl
@[simp] theorem delayMs_faultAt (n : Nat) : (delayMs n s).faultAt = s.faultAt := rfl
@[simp] theorem delayMs_fb (n : Nat) : (delayMs n s).fb = s.fb := rfl
@[simp] theorem delayMs_schedule (n : Nat) : (delayMs n s).schedule = s.schedule := rfl
@[simp] theorem delayMs_readback (n : Nat) : (delayMs n s).readback = s.readback := rfl
@[simp] theorem delayMs_draws (n : Nat) : (delayMs n s).draws = s.draws := rfl

/-! ### complete -/

@[simp] theorem complete_config : (complete s).config = s.config := rfl
@[simp] theorem complete_cfg : (complete s).cfg = s.cfg := rfl
@[simp] theorem complete_out : (complete s).out = s.out := rfl
@[simp] theorem complete_req0 : (complete s).req0 = s.req0 := rfl
@[simp] theorem complete_req1 : (complete s).req1 = s.req1 := rfl
@[simp] theorem complete_req2 : (complete s).req2 = s.req2 := rfl
@[simp] theorem complete_req3 : (complete s).req3 = s.req3 := rfl
@[simp] theorem complete_status : (complete s).status = s.status.finish := rfl
@[simp] theorem complete_seq : (complete s).seq = .idle := rfl
@[simp] theorem complete_latches : (complete s).latches = s.latches := rfl
@[simp] theorem complete_total : (complete s).total = s.total := rfl
@[simp] theorem complete_sent : (complete s).sent = s.sent := rfl
@[simp] theorem complete_pixel : (complete s).pixel = s.pixel := rfl
@[simp] theorem complete_trace : (complete s).trace = s.trace := rfl
@[simp] theorem complete_startOut : (complete s).startOut = s.startOut := rfl
@[simp] theorem complete_others : (complete s).others = s.others := rfl
@[simp] theorem complete_faultAt : (complete s).faultAt = s.faultAt := rfl
@[simp] theorem complete_fb : (complete s).fb = s.fb := rfl
@[simp] theorem complete_schedule : (complete s).schedule = s.schedule := rfl
@[simp] theorem complete_readback : (complete s).readback = s.readback := rfl
@[simp] theorem complete_draws : (complete s).draws = s.draws := rfl

/-! ### completeInit -/

@[simp] theorem completeInit_config : (completeInit s).config = s.config := rfl
@[simp] theorem completeInit_cfg : (completeInit s).cfg = s.cfg := rfl
@[simp] theorem completeInit_out : (completeInit s).out = s.out := rfl
@[simp] theorem completeInit_req0 : (completeInit s).req0 = s.req0 := rfl
@[simp] theorem completeInit_req1 : (completeInit s).req1 = s.req1 := rfl
@[simp] theorem completeInit_req2 : (completeInit s).req2 = s.req2 := rfl
@[simp] theorem completeInit_req3 : (completeInit s).req3 = s.req3 := rfl
@[simp] theorem completeInit_status : (completeInit s).status = s.status.finishInit := rfl
@[simp] theorem completeInit_seq : (completeInit s).seq = .idle := rfl
@[simp] theorem completeInit_latches : (completeInit s).latches = s.latches := rfl
@[simp] theorem completeInit_total : (completeInit s).total = s.total := rfl
@[simp] theorem completeInit_sent : (completeInit s).sent = s.sent := rfl
@[simp] theorem completeInit_pixel : (completeInit s).pixel = s.pixel := rfl
@[simp] theorem completeInit_trace : (completeInit s).trace = s.trace := rfl
@[simp] theorem completeInit_startOut : (completeInit s).startOut = s.startOut := rfl
@[simp] theorem completeInit_others : (completeInit s).others = s.others := rfl
@[simp] theorem completeInit_faultAt : (completeInit s).faultAt = s.faultAt := rfl
@[simp] theorem completeInit_fb : (completeInit s).fb = s.fb := rfl
@[simp] theorem completeInit_schedule : (completeInit s).schedule = s.schedule := rfl
@[simp] theorem completeInit_readback : (completeInit s).readback = s.readback := rfl
@[simp] theorem completeInit_draws : (completeInit s).draws = s.draws := rfl

/-! ### raise -/

@[simp] theorem raise_config (c : FaultCode) : (raise c s).config = s.config := rfl
@[simp] theorem raise_cfg (c : FaultCode) : (raise c s).cfg = s.cfg := rfl
@[simp] theorem raise_out (c : FaultCode) : (raise c s).out = s.out := rfl
@[simp] theorem raise_req0 (c : FaultCode) : (raise c s).req0 = s.req0 := rfl
@[simp] theorem raise_req1 (c : FaultCode) : (raise c s).req1 = s.req1 := rfl
@[simp] theorem raise_req2 (c : FaultCode) : (raise c s).req2 = s.req2 := rfl
@[simp] theorem raise_req3 (c : FaultCode) : (raise c s).req3 = s.req3 := rfl
@[simp] theorem raise_status (c : FaultCode) : (raise c s).status = s.status.raise c := rfl
@[simp] theorem raise_seq (c : FaultCode) : (raise c s).seq = .faulted := rfl
@[simp] theorem raise_latches (c : FaultCode) : (raise c s).latches = s.latches := rfl
@[simp] theorem raise_total (c : FaultCode) : (raise c s).total = s.total := rfl
@[simp] theorem raise_sent (c : FaultCode) : (raise c s).sent = s.sent := rfl
@[simp] theorem raise_pixel (c : FaultCode) : (raise c s).pixel = s.pixel := rfl
@[simp] theorem raise_trace (c : FaultCode) : (raise c s).trace = s.trace := rfl
@[simp] theorem raise_startOut (c : FaultCode) : (raise c s).startOut = s.startOut := rfl
@[simp] theorem raise_others (c : FaultCode) : (raise c s).others = s.others := rfl
@[simp] theorem raise_faultAt (c : FaultCode) : (raise c s).faultAt =
      if s.status.fault.isSome then s.faultAt else some s.seq := rfl
@[simp] theorem raise_fb (c : FaultCode) : (raise c s).fb = s.fb := rfl
@[simp] theorem raise_schedule (c : FaultCode) : (raise c s).schedule = s.schedule := rfl
@[simp] theorem raise_readback (c : FaultCode) : (raise c s).readback = s.readback := rfl
@[simp] theorem raise_draws (c : FaultCode) : (raise c s).draws = s.draws := rfl

/-! ### goto -/

@[simp] theorem goto_config (q : Seq) : (goto q s).config = s.config := rfl
@[simp] theorem goto_cfg (q : Seq) : (goto q s).cfg = s.cfg := rfl
@[simp] theorem goto_out (q : Seq) : (goto q s).out = s.out := rfl
@[simp] theorem goto_req0 (q : Seq) : (goto q s).req0 = s.req0 := rfl
@[simp] theorem goto_req1 (q : Seq) : (goto q s).req1 = s.req1 := rfl
@[simp] theorem goto_req2 (q : Seq) : (goto q s).req2 = s.req2 := rfl
@[simp] theorem goto_req3 (q : Seq) : (goto q s).req3 = s.req3 := rfl
@[simp] theorem goto_status (q : Seq) : (goto q s).status = s.status := rfl
@[simp] theorem goto_seq (q : Seq) : (goto q s).seq = q := rfl
@[simp] theorem goto_latches (q : Seq) : (goto q s).latches = s.latches := rfl
@[simp] theorem goto_total (q : Seq) : (goto q s).total = s.total := rfl
@[simp] theorem goto_sent (q : Seq) : (goto q s).sent = s.sent := rfl
@[simp] theorem goto_pixel (q : Seq) : (goto q s).pixel = s.pixel := rfl
@[simp] theorem goto_trace (q : Seq) : (goto q s).trace = s.trace := rfl
@[simp] theorem goto_startOut (q : Seq) : (goto q s).startOut = s.startOut := rfl
@[simp] theorem goto_others (q : Seq) : (goto q s).others = s.others := rfl
@[simp] theorem goto_faultAt (q : Seq) : (goto q s).faultAt = s.faultAt := rfl
@[simp] theorem goto_fb (q : Seq) : (goto q s).fb = s.fb := rfl
@[simp] theorem goto_schedule (q : Seq) : (goto q s).schedule = s.schedule := rfl
@[simp] theorem goto_readback (q : Seq) : (goto q s).readback = s.readback := rfl
@[simp] theorem goto_draws (q : Seq) : (goto q s).draws = s.draws := rfl

/-! ### openStream -/

@[simp] theorem openStream_config : (openStream s).config = s.config := rfl
@[simp] theorem openStream_cfg : (openStream s).cfg = s.cfg := rfl
@[simp] theorem openStream_out : (openStream s).out = s.out := rfl
@[simp] theorem openStream_req0 : (openStream s).req0 = s.req0 := rfl
@[simp] theorem openStream_req1 : (openStream s).req1 = s.req1 := rfl
@[simp] theorem openStream_req2 : (openStream s).req2 = s.req2 := rfl
@[simp] theorem openStream_req3 : (openStream s).req3 = s.req3 := rfl
@[simp] theorem openStream_status : (openStream s).status = s.status := rfl
@[simp] theorem openStream_seq : (openStream s).seq = s.seq := rfl
@[simp] theorem openStream_latches : (openStream s).latches = s.latches := rfl
@[simp] theorem openStream_total : (openStream s).total = pixelCount s.latches := rfl
@[simp] theorem openStream_sent : (openStream s).sent = 0 := rfl
@[simp] theorem openStream_pixel : (openStream s).pixel = s.pixel := rfl
@[simp] theorem openStream_trace : (openStream s).trace = s.trace := rfl
@[simp] theorem openStream_startOut : (openStream s).startOut = s.startOut := rfl
@[simp] theorem openStream_others : (openStream s).others = s.others := rfl
@[simp] theorem openStream_faultAt : (openStream s).faultAt = s.faultAt := rfl
@[simp] theorem openStream_fb : (openStream s).fb = s.fb := rfl
@[simp] theorem openStream_schedule : (openStream s).schedule = s.schedule := rfl
@[simp] theorem openStream_readback : (openStream s).readback = s.readback := rfl
@[simp] theorem openStream_draws : (openStream s).draws = s.draws := rfl

/-! ### holdPixel -/

@[simp] theorem holdPixel_config (i : Byte) : (holdPixel i s).config = s.config := rfl
@[simp] theorem holdPixel_cfg (i : Byte) : (holdPixel i s).cfg = s.cfg := rfl
@[simp] theorem holdPixel_out (i : Byte) : (holdPixel i s).out = s.out := rfl
@[simp] theorem holdPixel_req0 (i : Byte) : (holdPixel i s).req0 = s.req0 := rfl
@[simp] theorem holdPixel_req1 (i : Byte) : (holdPixel i s).req1 = s.req1 := rfl
@[simp] theorem holdPixel_req2 (i : Byte) : (holdPixel i s).req2 = s.req2 := rfl
@[simp] theorem holdPixel_req3 (i : Byte) : (holdPixel i s).req3 = s.req3 := rfl
@[simp] theorem holdPixel_status (i : Byte) : (holdPixel i s).status = s.status := rfl
@[simp] theorem holdPixel_seq (i : Byte) : (holdPixel i s).seq = s.seq := rfl
@[simp] theorem holdPixel_latches (i : Byte) : (holdPixel i s).latches = s.latches := rfl
@[simp] theorem holdPixel_total (i : Byte) : (holdPixel i s).total = s.total := rfl
@[simp] theorem holdPixel_sent (i : Byte) : (holdPixel i s).sent = s.sent := rfl
@[simp] theorem holdPixel_pixel (i : Byte) : (holdPixel i s).pixel = i := rfl
@[simp] theorem holdPixel_trace (i : Byte) : (holdPixel i s).trace = s.trace := rfl
@[simp] theorem holdPixel_startOut (i : Byte) : (holdPixel i s).startOut = s.startOut := rfl
@[simp] theorem holdPixel_others (i : Byte) : (holdPixel i s).others = s.others := rfl
@[simp] theorem holdPixel_faultAt (i : Byte) : (holdPixel i s).faultAt = s.faultAt := rfl
@[simp] theorem holdPixel_fb (i : Byte) : (holdPixel i s).fb = s.fb := rfl
@[simp] theorem holdPixel_schedule (i : Byte) : (holdPixel i s).schedule = s.schedule := rfl
@[simp] theorem holdPixel_readback (i : Byte) : (holdPixel i s).readback = s.readback := rfl
@[simp] theorem holdPixel_draws (i : Byte) : (holdPixel i s).draws = s.draws := rfl

/-! ### countPixel -/

@[simp] theorem countPixel_config : (countPixel s).config = s.config := rfl
@[simp] theorem countPixel_cfg : (countPixel s).cfg = s.cfg := rfl
@[simp] theorem countPixel_out : (countPixel s).out = s.out := rfl
@[simp] theorem countPixel_req0 : (countPixel s).req0 = s.req0 := rfl
@[simp] theorem countPixel_req1 : (countPixel s).req1 = s.req1 := rfl
@[simp] theorem countPixel_req2 : (countPixel s).req2 = s.req2 := rfl
@[simp] theorem countPixel_req3 : (countPixel s).req3 = s.req3 := rfl
@[simp] theorem countPixel_status : (countPixel s).status = s.status := rfl
@[simp] theorem countPixel_seq : (countPixel s).seq = s.seq := rfl
@[simp] theorem countPixel_latches : (countPixel s).latches = s.latches := rfl
@[simp] theorem countPixel_total : (countPixel s).total = s.total := rfl
@[simp] theorem countPixel_sent : (countPixel s).sent = s.sent + 1 := rfl
@[simp] theorem countPixel_pixel : (countPixel s).pixel = s.pixel := rfl
@[simp] theorem countPixel_trace : (countPixel s).trace = s.trace := rfl
@[simp] theorem countPixel_startOut : (countPixel s).startOut = s.startOut := rfl
@[simp] theorem countPixel_others : (countPixel s).others = s.others := rfl
@[simp] theorem countPixel_faultAt : (countPixel s).faultAt = s.faultAt := rfl
@[simp] theorem countPixel_fb : (countPixel s).fb = s.fb := rfl
@[simp] theorem countPixel_schedule : (countPixel s).schedule = s.schedule := rfl
@[simp] theorem countPixel_readback : (countPixel s).readback = s.readback := rfl
@[simp] theorem countPixel_draws : (countPixel s).draws = s.draws := rfl

/-! ### transfer -/

@[simp] theorem transfer_config (t : LutPair) (i : Byte) : (transfer t i s).config = s.config := rfl
@[simp] theorem transfer_cfg (t : LutPair) (i : Byte) : (transfer t i s).cfg = s.cfg := rfl
@[simp] theorem transfer_out (t : LutPair) (i : Byte) : (transfer t i s).out =
      withLine (applyMasks s.out (lutRead s.config t.setTable i) (lutRead s.config t.clrTable i)) s.config.pins.wr true := rfl
@[simp] theorem transfer_req0 (t : LutPair) (i : Byte) : (transfer t i s).req0 = s.req0 := rfl
@[simp] theorem transfer_req1 (t : LutPair) (i : Byte) : (transfer t i s).req1 = s.req1 := rfl
@[simp] theorem transfer_req2 (t : LutPair) (i : Byte) : (transfer t i s).req2 = s.req2 := rfl
@[simp] theorem transfer_req3 (t : LutPair) (i : Byte) : (transfer t i s).req3 = s.req3 := rfl
@[simp] theorem transfer_status (t : LutPair) (i : Byte) : (transfer t i s).status = s.status := rfl
@[simp] theorem transfer_seq (t : LutPair) (i : Byte) : (transfer t i s).seq = s.seq := rfl
@[simp] theorem transfer_latches (t : LutPair) (i : Byte) : (transfer t i s).latches = s.latches := rfl
@[simp] theorem transfer_total (t : LutPair) (i : Byte) : (transfer t i s).total = s.total := rfl
@[simp] theorem transfer_sent (t : LutPair) (i : Byte) : (transfer t i s).sent = s.sent := rfl
@[simp] theorem transfer_pixel (t : LutPair) (i : Byte) : (transfer t i s).pixel = s.pixel := rfl
@[simp] theorem transfer_trace (t : LutPair) (i : Byte) : (transfer t i s).trace = s.trace ++ transferEvents s.config t i :=
    by simp [transfer, transferEvents, pad]
@[simp] theorem transfer_startOut (t : LutPair) (i : Byte) : (transfer t i s).startOut = s.startOut := rfl
@[simp] theorem transfer_others (t : LutPair) (i : Byte) : (transfer t i s).others = s.others := rfl
@[simp] theorem transfer_faultAt (t : LutPair) (i : Byte) : (transfer t i s).faultAt = s.faultAt := rfl
@[simp] theorem transfer_fb (t : LutPair) (i : Byte) : (transfer t i s).fb = s.fb := rfl
@[simp] theorem transfer_schedule (t : LutPair) (i : Byte) : (transfer t i s).schedule = s.schedule := rfl
@[simp] theorem transfer_readback (t : LutPair) (i : Byte) : (transfer t i s).readback = s.readback := rfl
@[simp] theorem transfer_draws (t : LutPair) (i : Byte) : (transfer t i s).draws = s.draws := rfl

/-! ### byteTransfer -/

@[simp] theorem byteTransfer_config (t : ByteTx) : (byteTransfer t s).config = s.config := rfl
@[simp] theorem byteTransfer_cfg (t : ByteTx) : (byteTransfer t s).cfg = s.cfg := rfl
@[simp] theorem byteTransfer_req0 (t : ByteTx) : (byteTransfer t s).req0 = s.req0 := rfl
@[simp] theorem byteTransfer_req1 (t : ByteTx) : (byteTransfer t s).req1 = s.req1 := rfl
@[simp] theorem byteTransfer_req2 (t : ByteTx) : (byteTransfer t s).req2 = s.req2 := rfl
@[simp] theorem byteTransfer_req3 (t : ByteTx) : (byteTransfer t s).req3 = s.req3 := rfl
@[simp] theorem byteTransfer_status (t : ByteTx) : (byteTransfer t s).status = s.status := rfl
@[simp] theorem byteTransfer_seq (t : ByteTx) : (byteTransfer t s).seq = s.seq := rfl
@[simp] theorem byteTransfer_latches (t : ByteTx) : (byteTransfer t s).latches = s.latches := rfl
@[simp] theorem byteTransfer_total (t : ByteTx) : (byteTransfer t s).total = s.total := rfl
@[simp] theorem byteTransfer_sent (t : ByteTx) : (byteTransfer t s).sent = s.sent := rfl
@[simp] theorem byteTransfer_pixel (t : ByteTx) : (byteTransfer t s).pixel = s.pixel := rfl
@[simp] theorem byteTransfer_trace (t : ByteTx) : (byteTransfer t s).trace = s.trace ++ byteEvents s.config t :=
    by simp [byteTransfer, transferEvents, byteEvents]
@[simp] theorem byteTransfer_startOut (t : ByteTx) : (byteTransfer t s).startOut = s.startOut := rfl
@[simp] theorem byteTransfer_others (t : ByteTx) : (byteTransfer t s).others = s.others := rfl
@[simp] theorem byteTransfer_faultAt (t : ByteTx) : (byteTransfer t s).faultAt = s.faultAt := rfl
@[simp] theorem byteTransfer_fb (t : ByteTx) : (byteTransfer t s).fb = s.fb := rfl
@[simp] theorem byteTransfer_schedule (t : ByteTx) : (byteTransfer t s).schedule = s.schedule := rfl
@[simp] theorem byteTransfer_readback (t : ByteTx) : (byteTransfer t s).readback = s.readback := rfl
@[simp] theorem byteTransfer_draws (t : ByteTx) : (byteTransfer t s).draws = s.draws := rfl

/-! ### sendAll -/

@[simp] theorem sendAll_config (l : List ByteTx) : (sendAll l s).config = s.config := by
  induction l generalizing s with
  | nil => rfl
  | cons t l ih => simp [sendAll, ih]

@[simp] theorem sendAll_trace (l : List ByteTx) : (sendAll l s).trace = s.trace ++ l.flatMap (byteEvents s.config) := by
  induction l generalizing s with
  | nil => simp [sendAll]
  | cons t l ih => simp [sendAll, ih]

@[simp] theorem sendAll_cfg (l : List ByteTx) : (sendAll l s).cfg = s.cfg := by
  induction l generalizing s with
  | nil => rfl
  | cons t l ih => simp [sendAll, ih]

@[simp] theorem sendAll_req0 (l : List ByteTx) : (sendAll l s).req0 = s.req0 := by
  induction l generalizing s with
  | nil => rfl
  | cons t l ih => simp [sendAll, ih]

@[simp] theorem sendAll_req1 (l : List ByteTx) : (sendAll l s).req1 = s.req1 := by
  induction l generalizing s with
  | nil => rfl
  | cons t l ih => simp [sendAll, ih]

@[simp] theorem sendAll_req2 (l : List ByteTx) : (sendAll l s).req2 = s.req2 := by
  induction l generalizing s with
  | nil => rfl
  | cons t l ih => simp [sendAll, ih]

@[simp] theorem sendAll_req3 (l : List ByteTx) : (sendAll l s).req3 = s.req3 := by
  induction l generalizing s with
  | nil => rfl
  | cons t l ih => simp [sendAll, ih]

@[simp] theorem sendAll_status (l : List ByteTx) : (sendAll l s).status = s.status := by
  induction l generalizing s with
  | nil => rfl
  | cons t l ih => simp [sendAll, ih]

@[simp] theorem sendAll_seq (l : List ByteTx) : (sendAll l s).seq = s.seq := by
  induction l generalizing s with
  | nil => rfl
  | cons t l ih => simp [sendAll, ih]

@[simp] theorem sendAll_latches (l : List ByteTx) : (sendAll l s).latches = s.latches := by
  induction l generalizing s with
  | nil => rfl
  | cons t l ih => simp [sendAll, ih]

@[simp] theorem sendAll_total (l : List ByteTx) : (sendAll l s).total = s.total := by
  induction l generalizing s with
  | nil => rfl
  | cons t l ih => simp [sendAll, ih]

@[simp] theorem sendAll_sent (l : List ByteTx) : (sendAll l s).sent = s.sent := by
  induction l generalizing s with
  | nil => rfl
  | cons t l ih => simp [sendAll, ih]

@[simp] theorem sendAll_pixel (l : List ByteTx) : (sendAll l s).pixel = s.pixel := by
  induction l generalizing s with
  | nil => rfl
  | cons t l ih => simp [sendAll, ih]

@[simp] theorem sendAll_startOut (l : List ByteTx) : (sendAll l s).startOut = s.startOut := by
  induction l generalizing s with
  | nil => rfl
  | cons t l ih => simp [sendAll, ih]

@[simp] theorem sendAll_others (l : List ByteTx) : (sendAll l s).others = s.others := by
  induction l generalizing s with
  | nil => rfl
  | cons t l ih => simp [sendAll, ih]

@[simp] theorem sendAll_faultAt (l : List ByteTx) : (sendAll l s).faultAt = s.faultAt := by
  induction l generalizing s with
  | nil => rfl
  | cons t l ih => simp [sendAll, ih]

@[simp] theorem sendAll_fb (l : List ByteTx) : (sendAll l s).fb = s.fb := by
  induction l generalizing s with
  | nil => rfl
  | cons t l ih => simp [sendAll, ih]

@[simp] theorem sendAll_schedule (l : List ByteTx) : (sendAll l s).schedule = s.schedule := by
  induction l generalizing s with
  | nil => rfl
  | cons t l ih => simp [sendAll, ih]

@[simp] theorem sendAll_readback (l : List ByteTx) : (sendAll l s).readback = s.readback := by
  induction l generalizing s with
  | nil => rfl
  | cons t l ih => simp [sendAll, ih]

@[simp] theorem sendAll_draws (l : List ByteTx) : (sendAll l s).draws = s.draws := by
  induction l generalizing s with
  | nil => rfl
  | cons t l ih => simp [sendAll, ih]

end Sys2Proof.Machine
end

