-- ==== Sys2Proof/Laws/Observe.lean ====
section
/-! SUPPORT. Replay and Latched over joined event lists, and OUT after each shared operation as a replay of its events. -/

namespace Sys2Proof.Machine

theorem replay_append (v : Word) (a b : List Event) : replay v (a ++ b) = replay (replay v a) b := by
  induction a generalizing v with
  | nil => rfl
  | cons e a ih => simp [replay, ih]

theorem latched_append (pins : Pins) (v : Word) (a b : List Event) :
    latched pins v (a ++ b) = latched pins v a ++ latched pins (replay v a) b := by
  induction a generalizing v with
  | nil => rfl
  | cons e a ih =>
    simp only [List.cons_append, latched, replay]
    split <;> simp [ih]

/-- A delay moves no line, so it latches nothing. -/
theorem latched_delay (pins : Pins) (v : Word) (n : Nat) : latched pins v [.delay n] = [] := by
  simp [latched, outAfter]

/-- A timeline over joined lists: the second part begins where the first ends. -/
theorem timeline_append (ow : List OtherWrite) (k : Nat) (v : Word) (a : List Event) (e : Event) :
    timeline ow k v (a ++ [e]) =
      timeline ow k v a ++ [⟨e, endOut ow k v a, outAfter (endOut ow k v a) e⟩] := by
  induction a generalizing k v with
  | nil => rfl
  | cons d a ih => simp [timeline, endOut, ih]

/-- The waveform of joined lists is the joined waveforms. -/
theorem samples_append (a b : List Moment) : samples (a ++ b) = samples a ++ samples b := List.filterMap_append

/-- An event that is no delay and changes no line shows nothing. -/
theorem shown_noChange (e : Event) (v : Word) (h : ∀ n, e ≠ .delay n) : shown ⟨e, v, v⟩ = none := by
  cases e with
  | delay n => exact absurd rfl (h n)
  | _ => simp [shown]

/-- An event that is no delay and changes a line shows OUT after it. -/
theorem shown_change (e : Event) (v x : Word) (h : ∀ n, e ≠ .delay n) (hx : x ≠ v) : shown ⟨e, v, x⟩ = some (.level x) := by
  cases e with
  | delay n => exact absurd rfl (h n)
  | _ => simp [shown, hx]

/-- OUT after joined lists: without another agent's write at the join or later, the second part is a replay. -/
theorem endOut_append (ow : List OtherWrite) (k : Nat) (v : Word) (a b : List Event)
    (h : ∀ w ∈ ow, w.index ≤ k + a.length) : endOut ow k v (a ++ b) = replay (endOut ow k v a) b := by
  have key : ∀ (b : List Event) (j : Nat) (x : Word), (∀ w ∈ ow, w.index < j) → endOut ow j x b = replay x b := by
    have none_at : ∀ (j : Nat) (x : Word), (∀ w ∈ ow, w.index < j) → othersAt ow j x = x := by
      intro j x hj
      unfold othersAt
      induction ow with
      | nil => rfl
      | cons w ow ih =>
        have hw : w.index ≠ j := Nat.ne_of_lt (hj w (by simp))
        simp only [List.foldl_cons, if_neg hw]
        exact ih (fun u hu => h u (by simp [hu])) (fun u hu => hj u (by simp [hu]))
    intro b
    induction b with
    | nil => intro j x hj; exact none_at j x hj
    | cons e b ih =>
      intro j x hj
      simp only [endOut, replay, none_at j x hj]
      exact ih _ _ fun w hw => Nat.lt_succ_of_lt (hj w hw)
  induction a generalizing k v with
  | nil =>
    cases b with
    | nil => rfl
    | cons e b =>
      simp only [List.nil_append, endOut, replay]
      exact key b _ _ fun w hw => Nat.lt_succ_of_le (by simpa using h w hw)
  | cons d a ih =>
    simp only [List.cons_append, endOut]
    exact ih _ _ fun w hw => by have := h w hw; simp only [List.length_cons] at this; omega

/-- Where no other agent wrote, OUT after the events is their replay. -/
theorem endOut_nil (k : Nat) (v : Word) (es : List Event) : endOut [] k v es = replay v es := by
  induction es generalizing k v with
  | nil => rfl
  | cons e es ih => simp only [endOut, replay]; exact ih _ _

/-- OUT after a transfer is the replay of its events. -/
theorem transfer_replay (t : LutPair) (i : Byte) (s : State) :
    (transfer t i s).out = replay s.out (transferEvents s.config t i) := rfl

theorem byteTransfer_replay (t : ByteTx) (s : State) :
    (byteTransfer t s).out = replay s.out (byteEvents s.config t) := rfl

theorem sendAll_replay (l : List ByteTx) (s : State) :
    (sendAll l s).out = replay s.out (l.flatMap (byteEvents s.config)) := by
  induction l generalizing s with
  | nil => rfl
  | cons t l ih => simp [sendAll, ih, byteTransfer_replay, replay_append]

theorem byteEvents_length (c : Config) (t : ByteTx) : (byteEvents c t).length = 4 := rfl

theorem transferEvents_length (c : Config) (t : LutPair) (i : Byte) : (transferEvents c t i).length = 3 := rfl

end Sys2Proof.Machine
end

