-- ==== Sys2Proof/Laws/Ops.lean ====
section
/-! SUPPORT. Request start, said once: how a presented request is turned away or started, and what a whole request is. -/

namespace Sys2Proof.Machine

/-- A request starts exactly from a quiet block whose start checks pass; then this is the state it starts in. -/
theorem start_running_iff (i : Instr) (s t : State) : start i s = .running t ↔
    s.status.busy = false ∧ s.status.fault = none ∧
    startFault i { s with latches := latchRequest i s.descriptor } = none ∧
    t = { s with latches := latchRequest i s.descriptor, status := s.status.start, seq := firstPhase i } := by
  unfold start
  cases hb : s.status.busy <;> cases hf : s.status.fault <;> simp
  split
  · rename_i h; simp [h]
  · rename_i h; simp [h, eq_comm]

/-- A request is turned away in one of three ways: the block is busy, a fault is held, or a start check fails. -/
theorem start_turnedAway (i : Instr) (s t : State) (h : start i s = .turnedAway t) :
    (s.status.busy = true ∧ t = raise .busyViolation s) ∨
    (s.status.busy = false ∧ s.status.fault.isSome = true ∧ t = s) ∨
    (s.status.busy = false ∧ s.status.fault = none ∧
      ∃ c, startFault i { s with latches := latchRequest i s.descriptor } = some c ∧
        t = raise c { s with latches := latchRequest i s.descriptor }) := by
  unfold start at h
  cases hb : s.status.busy <;> cases hf : s.status.fault <;> simp_all
  split at h
  · rename_i c hc; cases h; exact ⟨c, hc, rfl⟩
  · cases h

/-- A whole request answers a next state: what turned it away, or its body run from its start. -/
theorem runRequest_cases (i : Instr) (body : State → State) (s : State) :
    (∃ t, start i s = .turnedAway t ∧ runRequest i body s = .next t) ∨
    (∃ t, start i s = .running t ∧ runRequest i body s = .next (body t)) := by
  unfold runRequest
  cases start i s with
  | turnedAway t => exact .inl ⟨t, rfl, rfl⟩
  | running t => exact .inr ⟨t, rfl, rfl⟩

/-- A whole request from a quiet block whose start checks pass. -/
theorem runRequest_of_checks (i : Instr) (body : State → State) (s : State) (hb : s.status.busy = false)
    (hf : s.status.fault = none) (hc : startFault i { s with latches := latchRequest i s.descriptor } = none) :
    runRequest i body s = .next
      (body { s with latches := latchRequest i s.descriptor, status := s.status.start, seq := firstPhase i }) := by
  have h := (start_running_iff i s _).2 ⟨hb, hf, hc, rfl⟩
  simp [runRequest, h]

/-- Every request answers a next state. -/
theorem exec_next (i : Instr) (s : State) : ∃ t, exec i s = .next t := by
  have h : ∀ body, ∃ t, runRequest i body s = .next t := fun body => by
    rcases runRequest_cases i body s with ⟨t, -, h⟩ | ⟨t, -, h⟩ <;> exact ⟨_, h⟩
  cases i <;> exact h _

end Sys2Proof.Machine
end

