-- ==== Sys2Proof/Laws/PerInstr.lean ====
section
/-! SUPPORT. Facts about every request as syntax: the word it is encoded in is the word of its row of the decoder table
(30_encoding.md R101, R104, R106). -/

namespace Sys2Proof.Laws.EncodeMatchesItsRow

/-- The encoded `REQ0` has its reserved bits 0, the request's opcode in bits 3:0 and its byte in bits 11:4, and the row of the
request's mnemonic is the one row it matches. -/
def Statement (i : Instr) : Prop :=
  (encode i).reserved = 0 ∧ (encode i).op = opOf i ∧ (encode i).byte = byteOf i ∧
  (opcodeRows.filter fun r => r.matches (encode i).req0).map OpcodeRow.mnemonic = [mnemonicOf i]

/-- The fields of `REQ0` are the parts it was made of. -/
theorem fields_of_req0 (op : BitVec 4) (b : Byte) :
    (req0Of op b).extractLsb' 12 20 = 0 ∧ (req0Of op b).extractLsb' 0 4 = op ∧ (req0Of op b).extractLsb' 4 8 = b := by
  refine ⟨?_, ?_, ?_⟩ <;> apply BitVec.eq_of_getLsbD_eq <;> intro k hk <;>
    simp only [req0Of, BitVec.getLsbD_extractLsb', BitVec.getLsbD_append, hk, decide_true, Bool.true_and]
  · simp [show ¬12 + k < 4 by omega, show ¬12 + k - 4 < 8 by omega]
  · simp [hk]
  · simp [show ¬4 + k < 4 by omega, show 4 + k - 4 = k by omega, hk]

/-- A word whose `REQ0` was made of opcode 4 or 5 and any byte matches the row of that opcode alone. -/
theorem byte_rows (b : Byte) :
    (opcodeRows.filter fun r => r.matches (req0Of 4 b)).map OpcodeRow.mnemonic = ["WRCMD"] ∧
    (opcodeRows.filter fun r => r.matches (req0Of 5 b)).map OpcodeRow.mnemonic = ["WRDATA"] := by
  revert b
  decide +kernel

theorem begin : Statement .begin := by unfold Statement; decide +kernel

theorem setwin (x0 y0 x1 y1 : Coord) : Statement (.setwin x0 y0 x1 y1) :=
  have h := fields_of_req0 2 0
  ⟨h.1, h.2.1, h.2.2, by show (opcodeRows.filter fun r => r.matches (req0Of 2 0)).map OpcodeRow.mnemonic = ["SETWIN"]; decide +kernel⟩

theorem render (x0 y0 x1 y1 : Coord) (buf : Word) : Statement (.render x0 y0 x1 y1 buf) :=
  have h := fields_of_req0 3 0
  ⟨h.1, h.2.1, h.2.2, by show (opcodeRows.filter fun r => r.matches (req0Of 3 0)).map OpcodeRow.mnemonic = ["RENDER"]; decide +kernel⟩

theorem wrcmd (byte : Byte) : Statement (.wrcmd byte) :=
  have h := fields_of_req0 4 byte
  ⟨h.1, h.2.1, h.2.2, (byte_rows byte).1⟩

theorem wrdata (byte : Byte) : Statement (.wrdata byte) :=
  have h := fields_of_req0 5 byte
  ⟨h.1, h.2.1, h.2.2, (byte_rows byte).2⟩

end Sys2Proof.Laws.EncodeMatchesItsRow
end

