-- ==== Sys2Proof/Tests/Slice0.lean ====
section
/-! SUPPORT. Tests on fixed values and the witnesses of the statements' hypotheses. Every expected value is taken from
95_test_vectors.md (named in the docstring) or worked out by hand from the rule named; the words to decode are written bit by
bit from the field table of 30_encoding.md R101. -/

namespace Sys2Proof.Tests

/- One test after the other: checked side by side, the evaluations hold more memory than the check allows. -/
set_option Elab.async false

open Sys2Proof.Machine

/-! ## Small states -/

/-- Vector I1's start: no request made, WR and RST high. -/
def fresh : State := { State.reset with out := 0x00060000, startOut := 0x00060000 }

/-- A block after BEGIN with the lines at `v` and an empty trace. -/
def readyAt (v : Word) : State := { State.reset with status := ⟨false, true, none⟩, out := v, startOut := v }

/-- The state after BEGIN that the SETWIN and RENDER vectors start from. -/
def ready : State := readyAt 0x00060029

/-- `ready` with a readable buffer. -/
def holding (m : Memory) : State := { ready with fb := m }

/-- The buffer of vector R1. -/
def twoBytes : Memory := [(0x20000000, 0x00), (0x20000001, 0xFF)]

/-- A state in which a fault is held. -/
def faulted : State := { ready with status := ⟨false, true, some .bufOob⟩, seq := .faulted, faultAt := some (.rRd 2) }

/-- A state with the request of `REQ0 = v` just started. -/
def inProgress (v : Word) (s : State) : State := startRequest v s

/-- The outcome is a next state with the property. -/
def nextHas (o : Host.Outcome State Fault Refusal) (p : State → Bool) : Bool :=
  match o with
  | .next t => p t
  | .fault _ => false
  | .refused _ => false

/-- What the trace of a state latches. -/
def latchedBy (t : State) : List Transaction := latched t.config.pins t.startOut t.trace

/-! ## WellFormed: one ill-formed line for each check -/

/-- 30_encoding.md R101, R112: a coordinate of 65536 fits no field. -/
theorem test_wf_refuses_setwin : (AsmLine.setwin 65536 0 0 0).wellFormed = false ∧ (AsmLine.setwin 0 65536 0 0).wellFormed = false ∧
    (AsmLine.setwin 0 0 65536 0).wellFormed = false ∧ (AsmLine.setwin 0 0 0 65536).wellFormed = false := by decide

/-- 30_encoding.md R101, R112: as above, and a buffer address of 2^32. -/
theorem test_wf_refuses_render : (AsmLine.render 65536 0 0 0 0).wellFormed = false ∧ (AsmLine.render 0 65536 0 0 0).wellFormed = false ∧
    (AsmLine.render 0 0 65536 0 0).wellFormed = false ∧ (AsmLine.render 0 0 0 65536 0).wellFormed = false ∧
    (AsmLine.render 0 0 0 0 4294967296).wellFormed = false := by decide

/-- 30_encoding.md R101, R113: a byte of 256 fits no field. -/
theorem test_wf_refuses_bytes : (AsmLine.wrcmd 256).wellFormed = false ∧ (AsmLine.wrdata 256).wellFormed = false ∧
    (AsmLine.cmd 256 []).wellFormed = false ∧ (AsmLine.cmd 0x36 [0x28, 256]).wellFormed = false := by decide

/-! ## The configuration check -/

/-- Table 3.1 of 95_test_vectors.md, row by row: the entry for 0x002A that encodes, and the ones that fail (c), (a), (d),
(b). -/
theorem test_table_entries :
    encodes exPins 0x0000002A 0x0002FFD5 0x002A = true ∧ encodes exPins 0x0000FFFF 0x0002FFD5 0x002A = true ∧
    encodes exPins 0x0000002A 0x0000FFD5 0x002A = false ∧ encodes exPins 0x0001002A 0x0002FFD5 0x002A = false ∧
    encodes exPins 0x0000002A 0x0002FF00 0x002A = false ∧ encodes exPins 0x0000002A 0x0012FFD5 0x002A = false ∧
    encodes exPins 0x0000002B 0x0002FFD5 0x002A = true := by decide +kernel

/-- 10_state.md R39 (e): an entry for another word fails. -/
theorem test_table_entry_of_another_word : encodes exPins 0x0000002A 0x0002FFD5 0x002B = false := by decide +kernel

/-- Section 1 of 95_test_vectors.md: sample entries of EX. -/
theorem test_ex_entries : lutRead exConfig .cmdSet 0x29 = 0x00000029 ∧ lutRead exConfig .cmdClr 0x29 = 0x0002FFD6 ∧
    lutRead exConfig .colSet 0x14 = 0x00001414 ∧ lutRead exConfig .colClr 0x14 = 0x0002EBEB := by decide +kernel

/-- 10_state.md R40 (1), 00_scope.md R9, 41_panel_init.md R172: two signals on one line, `UNROLL` 0 and a short gamma group
are refused. -/
theorem test_launch_refuses : launch { exConfig with pins := { exPins with dc := 17 } } 0 [] = .refused .configurationNotAdmitted ∧
    launch { exConfig with unroll := 0 } 0 [] = .refused .configurationNotAdmitted ∧
    launch { exConfig with initSeq := { exInitSeq with gamma1 := ⟨0x80, [0]⟩ } } 0 [] = .refused .configurationNotAdmitted := by
  refine ⟨?_, ?_, ?_⟩ <;> rfl

/-! ## Decoding words written out bit by bit -/

theorem test_decode_begin : decode ⟨0b00000000000000000000000000000001, 0, 0, 0⟩ = .ok .begin := by decide

/-- `X0` = 3 and `Y0` = 7 in `REQ1`, `X1` = 479 and `Y1` = 319 in `REQ2`. -/
theorem test_decode_setwin :
    decode ⟨0b00000000000000000000000000000010, 0b00000000000001110000000000000011, 0b00000001001111110000000111011111, 0⟩ =
      .ok (.setwin 3 7 479 319) := by decide

/-- As above, with `BUF` = 0x80000001 in `REQ3`. -/
theorem test_decode_render :
    decode ⟨0b00000000000000000000000000000011, 0b00000000000001110000000000000011, 0b00000001001111110000000111011111,
      0b10000000000000000000000000000001⟩ = .ok (.render 3 7 479 319 0x80000001) := by decide

/-- `BYTE` = 0b10100101 in bits 11:4, `OP` = 0100. -/
theorem test_decode_wrcmd : decode ⟨0b00000000000000000000101001010100, 0, 0, 0⟩ = .ok (.wrcmd 0xA5) := by decide

/-- `BYTE` = 0b10100101 in bits 11:4, `OP` = 0101. -/
theorem test_decode_wrdata : decode ⟨0b00000000000000000000101001010101, 0, 0, 0⟩ = .ok (.wrdata 0xA5) := by decide

/-- Vectors D1 to D5 of 95_test_vectors.md. -/
theorem test_decode_illegal : decode ⟨0x00000000, 0, 0, 0⟩ = .error .reservedOp ∧ decode ⟨0x00000006, 0, 0, 0⟩ = .error .reservedOp ∧
    decode ⟨0x0000000F, 0, 0, 0⟩ = .error .reservedOp ∧ decode ⟨0x00001001, 0, 0, 0⟩ = .error .reservedBits ∧
    decode ⟨0x00000011, 0, 0, 0⟩ = .error .byteUnused := by decide

/-! ## Requests, against the vectors -/

/-- Vector B1: its end state and its transaction. -/
theorem test_wrcmd_B1 : nextHas (exec (.wrcmd 0x2A) (readyAt 0x00031234))
    (fun t => t.out == 0x0002002A && latchedBy t == [(false, 0x002A)] && t.trace.length == 4) = true := by decide +kernel

/-- Vector D9: before BEGIN, `NOT_INIT` and no event. -/
theorem test_wrcmd_D9 : nextHas (exec (.wrcmd 0xFF) fresh)
    (fun t => statusWord t.status == 0x00000024 && t.trace == [] && t.out == 0x00060000) = true := by decide +kernel

/-- Vector B3: two no-change writes; the waveform drops them, the byte still latches. -/
theorem test_wrdata_B3 : nextHas (exec (.wrdata 0x01) (readyAt 0x00030001))
    (fun t => observation t == some ([.level 0x00010001, .level 0x00030001], [(true, 0x0001)])) = true := by decide +kernel

/-- Vector B7: lines 18 to 31 are untouched. -/
theorem test_wrdata_B7 : nextHas (exec (.wrdata 0xA5) (readyAt 0xFFF80000))
    (fun t => t.out == 0xFFFB00A5 && latchedBy t == [(true, 0x00A5)]) = true := by decide +kernel

/-- Vector I1. -/
theorem test_begin_I1 : nextHas (exec .begin fresh)
    (fun t => t.out == 0x00060029 && statusWord t.status == 0x00000002 && t.trace.length == 184 &&
      (latchedBy t).length == 44) = true := by decide +kernel

/-- Vector I2: WR low at the start latches a stray transaction. -/
theorem test_begin_I2 : nextHas (exec .begin State.reset)
    (fun t => t.out == 0x00060029 && (latchedBy t).length == 45 && (latchedBy t).head? == some (false, 0x0000)) = true := by
  decide +kernel

/-- Vector W2. -/
theorem test_setwin_W2 : nextHas (exec (.setwin 10 20 479 319) ready)
    (fun t => t.out == 0x0007002C && latchedBy t ==
      [(false, 0x2A), (true, 0x00), (true, 0x0A), (true, 0x01), (true, 0xDF), (false, 0x2B), (true, 0x00), (true, 0x14),
       (true, 0x01), (true, 0x3F), (false, 0x2C)]) = true := by decide +kernel

/-- Vector W8: `BAD_WINDOW` before `OUT_OF_RANGE`. -/
theorem test_setwin_W8 : nextHas (exec (.setwin 5 0 3 400) ready)
    (fun t => statusWord t.status == 0x00000046 && t.trace == []) = true := by decide +kernel

/-- Vectors R1 and V-S3. -/
theorem test_render_R1 : nextHas (exec (.render 0 0 1 0 0x20000000) (holding twoBytes))
    (fun t => t.out == 0x0007FFFF && statusWord t.status == 0x00000002 && t.trace.length == 51 &&
      (latchedBy t).drop 10 == [(false, 0x002C), (true, 0x0000), (true, 0xFFFF)]) = true := by decide +kernel

/-- Vector R4: the address of pixel 1 is past the top of the space. -/
theorem test_render_R4 : nextHas (exec (.render 0 0 1 0 0xFFFFFFFF) (holding [(0xFFFFFFFF, 0x07)]))
    (fun t => t.out == 0x00070707 && statusWord t.status == 0x00000066 && t.faultAt == some (.rRd 1)) = true := by
  decide +kernel

/-! ## The block step by step, and the host -/

/-- Vector I5: a write of `REQ1` stops BEGIN where it was. -/
theorem test_write_stops_begin_I5 :
    nextHas (step { inProgress 0x00000001 fresh with schedule := [.write 4 4 0] })
      (fun t => statusWord t.status == 0x00000074 && t.faultAt == some .bWr && t.trace == []) = true := by decide +kernel

/-- Vector D10: a held fault lets no request start; `REQ0` still stores. -/
theorem test_held_fault_D10 : nextHas (step { faulted with schedule := [.write 0 4 1] })
    (fun t => statusWord t.status == 0x00000066 && t.req0 == 1 && t.trace == []) = true := by decide +kernel

/-- Vectors B1 and 40_bus_primitive.md R145: the first primitive of WRCMD lowers DC, then the set write is next. -/
theorem test_first_event_of_wrcmd : nextHas (step (inProgress 0x000002A4 (readyAt 0x00031234)))
    (fun t => t.out == 0x00021234 && t.trace == [.line 16 false] && t.seq == .tx (.core .set) && t.status.busy) = true := by
  decide +kernel

/-- The first step after reset runs each request that is placed: BEGIN to its end, the others to `NOT_INIT` (vector D9). -/
theorem test_first_step_after_reset :
    nextHas (step (State.reset.withFetchWord 32 0x00000001)) (fun t => statusWord t.status == 0x00000002) = true ∧
    nextHas (step (State.reset.withFetchWord 32 0x00000002)) (fun t => statusWord t.status == 0x00000024) = true ∧
    nextHas (step (State.reset.withFetchWord 32 0x00000003)) (fun t => statusWord t.status == 0x00000024) = true ∧
    nextHas (step (State.reset.withFetchWord 32 0x00000FF4)) (fun t => statusWord t.status == 0x00000024) = true ∧
    nextHas (step (State.reset.withFetchWord 32 0x00000FF5)) (fun t => statusWord t.status == 0x00000024) = true := by
  decide +kernel

/-- R49, R85, by hand: a WRDATA of 0x01 in progress, after a no-change DC write another agent has raised line 31. -/
def raised31 : State :=
  { ready with
    status := ⟨true, true, none⟩, seq := .tx (.core .set), latches := ⟨5, 1, 0, 0, 0, 0, 0⟩
    startOut := 0x00030001, out := 0x80030001, trace := [.line 16 true], others := [⟨1, 0x80000000, 0⟩] }

/-- The set write changes no line, so it is unobservable; the clear write after it lowers WR, and shows line 31 as it is. -/
theorem test_waveform_shows_other_agents :
    nextHas (step raised31) (fun t => (seenSoFar t).1 == [] && outHistory t == [0x00030001, 0x80030001] &&
      nextHas (step t) (fun u => (seenSoFar u).1 == [.level 0x80010001])) = true := by decide +kernel

/-- R253: the partial trace of a faulted run is no observation. -/
theorem test_faulted_has_no_observation : observation faulted = none := by decide

/-- R71: BUFMEM is the set of addresses the launch gives; the later of two bytes for one address counts. -/
theorem test_launch_gives_bufmem :
    (let m := Memory.ofBytes [(0x20000001, 0x01), (0x20000000, 0x00), (0x20000001, 0xFF)]
     m == twoBytes && m.read 0x20000002 == none) = true := by decide +kernel

/-! ## Witnesses: for every statement with hypotheses, a concrete state and operands that meet them all -/

/-- A legal descriptor of every request, and both ends of `BYTE`. -/
theorem witness_EncodeOfDecodeKeepsUsedWords : decode ⟨0x00000001, 0, 0, 0⟩ = .ok .begin ∧
    decode ⟨0x00000002, 0xFFFF0000, 0x0000FFFF, 5⟩ = .ok (.setwin 0 0xFFFF 0xFFFF 0) ∧
    decode ⟨0x00000003, 0xFFFF0000, 0x0000FFFF, 0xFFFFFFFF⟩ = .ok (.render 0 0xFFFF 0xFFFF 0 0xFFFFFFFF) ∧
    decode ⟨0x00000004, 1, 2, 3⟩ = .ok (.wrcmd 0) ∧ decode ⟨0x00000FF5, 1, 2, 3⟩ = .ok (.wrdata 0xFF) := by decide

theorem witness_LatchesAreTheDescriptorFields : decode ⟨0x00000FF4, 0xFFFF0000, 0x0000FFFF, 7⟩ = .ok (.wrcmd 0xFF) := by decide

/-- Each way a descriptor is illegal, at the edges of its range, presented to a quiet block. -/
theorem witness_IllegalDescriptorsFaultAtStart : Quiet fresh ∧
    decode ⟨0x00000000, fresh.req1, fresh.req2, fresh.req3⟩ = .error .reservedOp ∧
    decode ⟨0x00000006, fresh.req1, fresh.req2, fresh.req3⟩ = .error .reservedOp ∧
    decode ⟨0x0000000F, fresh.req1, fresh.req2, fresh.req3⟩ = .error .reservedOp ∧
    decode ⟨0x00001001, fresh.req1, fresh.req2, fresh.req3⟩ = .error .reservedBits ∧
    decode ⟨0x80000004, fresh.req1, fresh.req2, fresh.req3⟩ = .error .reservedBits ∧
    decode ⟨0x00000011, fresh.req1, fresh.req2, fresh.req3⟩ = .error .byteUnused ∧
    decode ⟨0x00000803, fresh.req1, fresh.req2, fresh.req3⟩ = .error .byteUnused := by decide

/-- Every operand at both ends of its field. -/
theorem witness_WellFormedLineKeepsItsNumbers : (AsmLine.setwin 0 65535 65535 0).wellFormed = true ∧
    (AsmLine.render 65535 0 0 65535 4294967295).wellFormed = true ∧ (AsmLine.wrcmd 255).wellFormed = true ∧
    (AsmLine.wrdata 0).wellFormed = true ∧ (AsmLine.cmd 255 [0, 255]).wellFormed = true ∧
    (AsmLine.cmd 0 []).wellFormed = true := by decide

/-- A line that is no data line and not WR is there too. -/
theorem witness_EncodingEntryPlacesItsWord : (signalLines exPins).Nodup ∧ encodes exPins 0x0000002A 0x0002FFD5 0x002A = true ∧
    (31 : Line) ∉ exPins.d.toList ∧ (31 : Line) ≠ exPins.wr := by decide +kernel

/-- EX is launched; it fails with a shared line, with a command table that never lowers WR, with a wrong palette. -/
theorem witness_OnlyCheckedConfigurationsAreLaunched : (∃ t, launch exConfig 7 [] = .next t) ∧ (signalLines exPins).Nodup ∧
    ¬(signalLines { exPins with dc := 17 }).Nodup ∧
    (let c := { exConfig with cmdClr := exConfig.colSet }
     encodes c.pins (lutRead c .cmdSet 0) (lutRead c .cmdClr 0) (cmdWord 0) = false) ∧
    (let c := { exConfig with palette := tabulate fun _ => 0xFFFF }
     encodes c.pins (lutRead c .colSet 0) (lutRead c .colClr 0) (paletteOf c 0) = false) := by
  refine ⟨⟨_, by unfold launch; rw [dif_pos exConfig_admitted]⟩, ?_⟩
  decide +kernel

/-- EX is launched, with the lines high and with the lines low. -/
theorem witness_ResetStateHasTheGivenValues : (∃ t, launch exConfig 0 [] = .next t) ∧
    (∃ t, launch exConfig 0xFFFFFFFF [(0x20000000, 0x00)] = .next t) := by
  constructor <;> exact ⟨_, by unfold launch; rw [dif_pos exConfig_admitted]⟩

/-- Each way the structure fails, and EX, which passes. -/
theorem witness_InitSeqStructureIsChecked :
    { exInitSeq with gamma1 := ⟨0x80, []⟩ : InitSeq }.gamma1.params.length ≠ 15 ∧
    { exInitSeq with gamma2 := ⟨0x81, List.replicate 16 0⟩ : InitSeq }.gamma2.params.length ≠ 15 ∧
    [] ∈ configParts { exInitSeq with adjustControl := [] } ∧ { exConfig with unroll := 0 }.unroll = 0 ∧
    exConfig.initSeq.gamma1.params.length = 15 ∧ exConfig.initSeq.gamma2.params.length = 15 ∧
    [] ∉ configParts exConfig.initSeq ∧ 1 ≤ exConfig.unroll ∧ (signalLines exConfig.pins).Nodup ∧
    (∀ b : Byte, encodes exConfig.pins (lutRead exConfig .cmdSet b) (lutRead exConfig .cmdClr b) (cmdWord b) = true) ∧
    (∀ i : Byte, encodes exConfig.pins (lutRead exConfig .colSet i) (lutRead exConfig .colClr i) (paletteOf exConfig i) = true) := by
  refine ⟨?_, ?_, ?_, rfl, ?_, ?_, ?_, ?_, exBoard.nodup, exBoard.command_encodes, exBoard.colour_encodes⟩ <;> decide

theorem witness_TableMasksLeaveDcAlone : (0 : Line) ≠ exBoard.cfg.pins.dc := by decide

theorem witness_TransferLatchesItsWordOnce : (31 : Line) ∉ ready.config.pins.d.toList ∧ (31 : Line) ≠ ready.config.pins.wr ∧
    (31 : Line) ≠ ready.config.pins.dc := by decide

theorem witness_DcIsStableDuringAByteTransfer : (1 ≤ 1 ∧ 1 ≤ 4) ∧ (1 ≤ 4 ∧ 4 ≤ 4) ∧
    Event.clr 0 ∈ [Event.clr 0] := by decide

/-- For WRCMD, WRDATA and the `CMD` line. -/
theorem witness_ready : Ready ready := by decide

/-- For BEGIN. -/
theorem witness_fresh : Fresh fresh := by decide

/-- For SETWIN and RENDER: the whole panel, its last pixel, its first pixel. -/
theorem witness_WindowOk : Ready ready ∧ WindowOk 0 0 479 319 ∧ WindowOk 479 319 479 319 ∧ WindowOk 0 0 0 0 := by decide

/-- A buffer of two bytes, and one that ends at the top of the space. -/
theorem witness_RenderStreamsItsBuffer : Ready (holding twoBytes) ∧ WindowOk 0 0 1 0 ∧
    [0x00#8, 0xFF].length = ((1 : Coord).toNat - (0 : Coord).toNat + 1) * ((0 : Coord).toNat - (0 : Coord).toNat + 1) ∧
    (0x20000000#32).toNat + [0x00#8, 0xFF].length ≤ 2 ^ 32 ∧
    (∀ (k : Nat) (h : k < [0x00#8, 0xFF].length),
      (holding twoBytes).fb.read ((0x20000000#32).toNat + k) = some ([0x00#8, 0xFF][k])) ∧
    (0xFFFFFFFF#32).toNat + [0x07#8].length ≤ 2 ^ 32 ∧
    (∀ (k : Nat) (h : k < [0x07#8].length),
      (holding [(0xFFFFFFFF, 0x07)]).fb.read ((0xFFFFFFFF#32).toNat + k) = some ([0x07#8][k])) := by decide

/-- A buffer one byte short, one at the top of the space, and an empty one. -/
theorem witness_RenderFaultsAtTheFirstUnreadablePixel : Ready (holding twoBytes) ∧ WindowOk 0 0 2 0 ∧
    [0x00#8, 0xFF].length < ((2 : Coord).toNat - (0 : Coord).toNat + 1) * ((0 : Coord).toNat - (0 : Coord).toNat + 1) ∧
    (∀ (k : Nat) (h : k < [0x00#8, 0xFF].length), (0x20000000#32).toNat + k < 2 ^ 32 ∧
      (holding twoBytes).fb.read ((0x20000000#32).toNat + k) = some ([0x00#8, 0xFF][k])) ∧
    (holding twoBytes).fb.read ((0x20000000#32).toNat + 2) = none ∧
    2 ^ 32 ≤ (0xFFFFFFFF#32).toNat + [0x07#8].length ∧ (holding []).fb.read (0x20000000#32).toNat = none := by decide

theorem witness_BatchingIsTheSingleLoop : 1 ≤ 1 ∧ 1 ≤ 20 := by decide

/-- The window of the whole panel: its first and last pixel, its corners. -/
theorem witness_PixelPlacesFillTheWindow : let l := latchRequest (.setwin 0 0 479 319) ready.descriptor
    WindowOk l.x0 l.y0 l.x1 l.y1 ∧ 0 < pixelCount l ∧ 153599 < pixelCount l ∧
    l.x0.toNat ≤ 479 ∧ 479 ≤ l.x1.toNat ∧ l.y0.toNat ≤ 319 ∧ 319 ≤ l.y1.toNat ∧
    pixelColumn l 153599 = 479 ∧ pixelRow l 153599 = 319 := by decide +kernel

/-- Vector R7: one more byte, past the buffer's end. -/
theorem witness_RenderReadsOnlyItsBuffer : (∃ t, exec (.render 0 0 1 0 0x20000000) (holding twoBytes) = .next t) ∧
    (∀ a, 0x20000000 ≤ a → a < 0x20000002 →
      Memory.read (twoBytes ++ [(0x20000002, 0x12)]) a = Memory.read twoBytes a) := by
  refine ⟨⟨_, rfl⟩, fun a h1 h2 => ?_⟩
  have h : a = 0x20000000 ∨ a = 0x20000001 := by omega
  rcases h with rfl | rfl <;> decide

/-- For the statements about every request that answers a next state; `wrcmd` is neither BEGIN nor RENDER, and line 31 is
no signal. -/
theorem witness_RequestsLeaveTheRestAlone : (∃ t, exec (.wrcmd 0x2A) ready = .next t) ∧ Instr.wrcmd 0x2A ≠ .begin ∧
    (∀ x0 y0 x1 y1 buf, Instr.wrcmd 0x2A ≠ .render x0 y0 x1 y1 buf) ∧ (31 : Line) ∉ signalLines ready.config.pins :=
  ⟨⟨_, rfl⟩, by decide, fun _ _ _ _ _ h => Instr.noConfusion h, by decide⟩

/-- EX with other pads, another unroll factor, other timing and other addresses. -/
def otherConfig : Config :=
  { exConfig with
    unroll := 1, nopLow := 2, nopHigh := 3, timing := ⟨1, 2, 3, 4, 5⟩, gpioSetAddr := 4, gpioClrAddr := 8,
    lineAddrs := ⟨1, 2, 3, 4, 5⟩, regBase := 64 }

theorem otherConfig_admitted : configAdmitted otherConfig = true := by
  have h : (pinsDistinct otherConfig.pins && initSeqStructured otherConfig.initSeq && decide (1 ≤ otherConfig.unroll)) = true := by
    decide +kernel
  have hc : commandTablesEncode otherConfig = true := exConfig_commandTables
  have hp : colourTablesEncode otherConfig = true := exConfig_colourTables
  simp only [configAdmitted, h, hc, hp, Bool.and_self]

theorem witness_PadsAndTimingChangeNoRequest : (∃ b : Board, b.cfg = { ready.cfg.cfg with
      unroll := 1, nopLow := 2, nopHigh := 3, timing := ⟨1, 2, 3, 4, 5⟩, gpioSetAddr := 4, gpioClrAddr := 8,
      lineAddrs := ⟨1, 2, 3, 4, 5⟩, regBase := 64 }) ∧
    ∃ t, exec (.wrcmd 0x2A) ready = .next t := ⟨⟨⟨otherConfig, otherConfig_admitted⟩, rfl⟩, ⟨_, rfl⟩⟩

/-- BEGIN at the last step of its display-on transfer. -/
def lastOfBegin : State := { fresh with status := ⟨true, false, none⟩, seq := .bOn (.core .wr) }

/-- A step of a ready block that is no reset, a call of BEGIN at a fresh one, and the last step of BEGIN event by event. -/
theorem witness_InitDoneRisesByBeginAndFallsByReset :
    (∃ t, step ready = .next t ∧ ready.status.initDone = true ∧ resetNext ready = false) ∧
    nextHas (step { fresh with schedule := [.call 1] }) (fun t => t.status.initDone) = true ∧ fresh.status.initDone = false ∧
    nextHas (step lastOfBegin) (fun t => t.status.initDone) = true ∧ lastOfBegin.status.initDone = false :=
  ⟨⟨_, rfl, rfl, rfl⟩, by decide +kernel, rfl, by decide +kernel, rfl⟩

theorem witness_IdleBlockIsSilent : ready.status.busy = false ∧ resetNext ready = false ∧ callNext ready = false ∧
    ∃ t, step ready = .next t := ⟨rfl, rfl, rfl, ⟨_, rfl⟩⟩

theorem witness_RaiseKeepsTheFirstCode : ready.status.fault = none := rfl

/-- One request for each start check, at the edge of its range. -/
theorem witness_StartChecksReportTheFirstFault : Quiet ready ∧ ready.status.initDone = true ∧ Quiet fresh ∧
    Instr.wrcmd 0 ≠ .begin ∧ fresh.status.initDone = false ∧
    (let l := latchRequest (.setwin 1 0 0 0) ready.descriptor; l.x1.toNat < l.x0.toNat) ∧
    (let l := latchRequest (.setwin 0 1 0 0) ready.descriptor; l.y1.toNat < l.y0.toNat) ∧
    (let l := latchRequest (.render 0 0 480 0 0) ready.descriptor; l.x0.toNat ≤ l.x1.toNat ∧ l.y0.toNat ≤ l.y1.toNat ∧ 479 < l.x1.toNat) ∧
    (let l := latchRequest (.render 0 0 0 320 0) ready.descriptor; l.x0.toNat ≤ l.x1.toNat ∧ l.y0.toNat ≤ l.y1.toNat ∧ 319 < l.y1.toNat) := by
  decide

theorem witness_HeldFaultStaysUntilReset : faulted.status.busy = false ∧ faulted.status.fault.isSome = true ∧
    resetNext faulted = false ∧ ∃ t, step faulted = .next t := ⟨rfl, rfl, rfl, ⟨_, rfl⟩⟩

theorem witness_WriteDuringARequestStopsIt : let s := { inProgress 0x000002A4 ready with schedule := [.write 0x0C 4 9] }
    s.status.busy = true ∧ s.status.fault = none ∧ (0x0C : Nat) ∈ [0x00, 0x04, 0x08, 0x0C] ∧
    s.schedule = .write (registerAddress s 0x0C) 4 9 :: [] := by decide +kernel

theorem witness_ResetHoldsTheLinesAndWaits : { ready with schedule := [.blockReset] : State }.schedule = .blockReset :: [] ∧
    { ready with schedule := [.powerOn] : State }.schedule = .powerOn :: [] := ⟨rfl, rfl⟩

/-- A quiet block; the first and the last reserved offset; an odd offset and an access of one byte. -/
theorem witness_RequestRegistersReadBack : ready.status.busy = false ∧ (0x14 ≤ 0x14 ∧ 0x14 < 0x40 ∧ 0x14 % 4 = 0) ∧
    (0x14 ≤ 0x3C ∧ 0x3C < 0x40 ∧ 0x3C % 4 = 0) ∧ (0x3F < 0x40 ∧ (4 ≠ 4 ∨ 0x3F % 4 ≠ 0)) ∧
    (0x00 < 0x40 ∧ (1 ≠ 4 ∨ 0x00 % 4 ≠ 0)) := by decide

/-- A quiet block, whose buffer is free; a RENDER in progress, at the first and the last address of its buffer. -/
theorem witness_ProvidedBytesReadBack :
    (∃ t, launch exConfig 0 [(0xFFFFFFFF, 0x07), (0x00000000, 0x01), (0xFFFFFFFF, 0x08)] = .next t) ∧ bufferBusy ready (0x20000000#32).toNat = false ∧ Memory.wf (holding twoBytes).fb = true ∧
    (let s := inProgress 3 { holding twoBytes with req2 := 1, req3 := 0x20000000 }
     s.status.busy = true ∧ s.latches.op = 3 ∧ s.latches.buf.toNat ≤ (0x20000000#32).toNat ∧
     (0x20000001#32).toNat < s.latches.buf.toNat + pixelCount s.latches) :=
  ⟨⟨_, by unfold launch; rw [dif_pos exConfig_admitted]⟩, by decide +kernel⟩

/-- Lines 21 to 31 are no signals of EX. -/
theorem witness_OtherAgentsDoNotDisturbTheBlock :
    ∀ p ∈ signalLines ready.config.pins, levelOf 0xFFE00000 p = false ∧ levelOf 0x80000000 p = false := by decide +kernel

/-- Vector B3: DC is high already, also right after and right before another agent's write; and of a WRDATA in progress the
set write, which changes no line, the clear write, which lowers WR, and a delay. -/
theorem witness_NoChangeWritesAreUnobservable : (∀ n, Event.line 16 true ≠ .delay n) ∧
    outAfter (replay 0x00030001 []) (.line 16 true) = replay 0x00030001 [] ∧
    (let early : List OtherWrite := [⟨1, 0x80000000, 0⟩]
     let late : List OtherWrite := [⟨2, 0, 0x80000000⟩]
     let before := [Event.line 17 true]
     (∀ w ∈ early, w.index ≤ before.length) ∧ (∀ w ∈ late, before.length < w.index) ∧
     outAfter (endOut early 0 0x00010001 before) (.line 16 true) = endOut early 0 0x00010001 before) ∧
    historyExplainsOut raised31 = true ∧ traceExplainsLines raised31 = true ∧
    nextHas (step raised31) (fun t => t.trace == raised31.trace ++ [.set 0x00000001] && t.out == raised31.out) = true ∧
    nextHas (step { raised31 with seq := .tx (.core .clr) })
      (fun t => t.trace == raised31.trace ++ [.clr 0x0002FFFE] && t.out != raised31.out) = true ∧
    nextHas (step { raised31 with seq := .bD1 }) (fun t => t.trace == raised31.trace ++ [.delay 5]) = true :=
  ⟨fun _ h => Event.noConfusion h, by decide +kernel⟩

theorem witness_StepRunsTheDecodedRequest : { ready with schedule := [.call 0x2A4] : State }.schedule = .call 0x2A4 :: [] ∧
    decode ⟨0x2A4, ready.req1, ready.req2, ready.req3⟩ = .ok (.wrcmd 0x2A) ∧ decodeTableWord 32 0x2A4 = some (.wrcmd 0x2A) := by
  decide

theorem witness_EventByEventRunIsTheWholeRequest : Quiet fresh ∧ Quiet ready := by decide

/-- A block in mid-request that meets every invariant: a WRCMD just started after a BEGIN whose last wait is in the trace. -/
def served : State :=
  inProgress 0x000002A4 { readyAt 0x00060029 with trace := [.delay tRstPost] }

theorem witness_RequestsInProgressEnd : SeqInv served = true ∧ served.status.busy = true ∧ served.schedule = [] := by
  decide +kernel

theorem witness_StepKeepsThePositionInvariant : SeqInv served = true ∧ levelsFit served = true ∧ pulseFirst served = true ∧
    traceExplainsLines served = true ∧ nextHas (step served) (fun t => t.seq == .tx (.core .set)) = true := by decide +kernel

theorem witness_FaultedStateIsNeverFinal : faulted.status.fault.isSome = true ∧ resetNext faulted = false ∧
    (∀ m ∈ faulted.schedule, isReset m = false) ∧ (∃ t, step faulted = .next t) ∧
    (∃ t, Sys2Proof.core.run 2 faulted = .next t) ∧ Quiet ready :=
  ⟨rfl, rfl, by decide, ⟨_, rfl⟩, ⟨_, rfl⟩, by decide⟩

/-- A step to a next state, and each refusal, in states of the invariant; register 0x40 is the first outside the block. -/
theorem witness_StepNeverLosesTheSequencer : SeqInv served = true ∧ (∃ t, step served = .next t) ∧
    (let refusal (m : HostMove) (s : State) := step { s with schedule := [m] }
     let s := inProgress 3 { holding twoBytes with req2 := 1, req3 := 0x20000000 }
     SeqInv ready = true ∧ SeqInv s = true ∧
     refusal (.read 0x3E 4) ready = .refused .notAlignedWord ∧ refusal (.read 0x40 4) ready = .refused .outsideRegisterBlock ∧
     refusal (.write 0x3C 2 0) ready = .refused .notAlignedWord ∧
     refusal (.write 0x40 4 0) ready = .refused .outsideRegisterBlock ∧
     refusal (.provide 0x20000001 0) s = .refused .bufferInUse ∧ refusal (.withdraw 0x20000000) s = .refused .bufferInUse ∧
     refusal (.otherAgent 0 0x00010000) ready = .refused .signalLineOwned) :=
  ⟨by decide +kernel, ⟨_, rfl⟩, by decide +kernel, by decide +kernel, rfl, rfl, rfl, rfl, rfl, rfl, rfl⟩

/-- A step with one event, an idle step with none, and another agent's write to lines that are no signals. -/
theorem witness_StepKeepsTheHistoryExplainingOut : historyExplainsOut served = true ∧
    nextHas (step served) (fun t => t.trace == served.trace ++ [.line 16 false]) = true ∧
    historyExplainsOut ready = true ∧ resetNext ready = false ∧
    nextHas (step ready) (fun t => t.trace == ready.trace) = true ∧
    nextHas (step { served with schedule := [.otherAgent 0x80000000 0x00200000] }) (fun t => t.out == 0x80060029) = true := by
  decide +kernel

/-- A ready block before a request's moves, a busy one before them, a ready and a busy one before `WAIT`, a ready one before
`WAITMS`. -/
theorem witness_LineMovesPerformTheLine : ready.status.busy = false ∧ served.status.busy = true ∧
    (∀ i, { ready with schedule := requestMoves 0 i : State }.schedule =
      requestMoves { ready with schedule := requestMoves 0 i : State }.config.regBase.toNat i ++ []) ∧
    (∀ n, { ready with schedule := lineMoves 0 (.waitMs n) : State }.schedule = lineMoves 0 (.waitMs n) ++ []) ∧
    { served with schedule := lineMoves 0 .wait : State }.schedule = lineMoves 0 .wait ++ [] ∧
    AsmLine.begin ≠ .wait ∧ (∀ n, AsmLine.begin ≠ .waitMs n) :=
  ⟨rfl, rfl, fun _ => (List.append_nil _).symm, fun _ => (List.append_nil _).symm, rfl,
    fun h => AsmLine.noConfusion h, fun _ h => AsmLine.noConfusion h⟩

end Sys2Proof.Tests
end

section
/-! The statements about what the block holds when it begins to run: which configurations are launched (10_state.md R40)
and the values after reset (R51). -/

namespace Sys2Proof.Machine

/-! ## The launch -/

/-- A launch answers a next state exactly when the configuration passes the check, and then the state of R51 on it. -/
theorem launch_eq_next_iff (c : Config) (v : Word) (l : List (Word × Byte)) (t : State) :
    launch c v l = .next t ↔ ∃ h : configAdmitted c = true,
      t = { State.reset with cfg := ⟨c, h⟩, out := v, startOut := v, fb := Memory.ofBytes l } := by
  unfold launch
  split
  case isTrue h => simp [h, eq_comm]
  case isFalse h => simp [h]

/-- A configuration that fails the check is refused. -/
theorem launch_refused_of_not_admitted (c : Config) (v : Word) (l : List (Word × Byte)) (h : ¬configAdmitted c = true) :
    launch c v l = .refused .configurationNotAdmitted := dif_neg h

/-! ## The canonical entry (10_state.md R40) -/

theorem levelOf_wrBit (pins : Pins) (p : Line) : levelOf (wrBit pins) p = decide (p = pins.wr) := levelOf_lineBit pins.wr p

/-- On the data lines the word placed from `~w` is the complement of the one placed from `w`. -/
theorem levelOf_place_not (pins : Pins) (w : BusWord) (hn : pins.d.toList.Nodup) (p : Line) (hp : p ∈ pins.d.toList) :
    levelOf (place pins (~~~w)) p = !levelOf (place pins w) p := by
  obtain ⟨k, hk, rfl⟩ := List.getElem_of_mem hp
  have h16 : k < 16 := dataLines_length pins ▸ hk
  rw [levelOf_place_data pins _ hn k hk, levelOf_place_data pins _ hn k hk]
  simp [h16]

/-- The canonical set mask raises the data lines whose bit of `w` is 1, and no other line. -/
theorem levelOf_canonicalSet (pins : Pins) (w : BusWord) (p : Line) :
    levelOf (canonicalSet pins w) p = (decide (p ∈ pins.d.toList) && levelOf (place pins w) p) := by
  by_cases hp : p ∈ pins.d.toList
  · simp [canonicalSet, hp]
  · simp [canonicalSet, hp, levelOf_place_notData]

/-- The canonical clear mask lowers the data lines whose bit of `w` is 0, and WR. -/
theorem levelOf_canonicalClr (pins : Pins) (w : BusWord) (hn : pins.d.toList.Nodup) (p : Line) :
    levelOf (canonicalClr pins w) p =
      (decide (p ∈ pins.d.toList) && !levelOf (place pins w) p || decide (p = pins.wr)) := by
  rw [canonicalClr, levelOf_or, levelOf_wrBit]
  by_cases hp : p ∈ pins.d.toList
  · simp [hp, levelOf_place_not pins w hn p hp]
  · simp [hp, levelOf_place_notData]

/-- The canonical entry for a word encodes it: each condition (a) to (e) of 10_state.md R39 holds line by line. Only (e) needs
that WR is no data line. -/
theorem encodes_canonical (pins : Pins) (w : BusWord) (h : (signalLines pins).Nodup) :
    encodes pins (canonicalSet pins w) (canonicalClr pins w) w = true := by
  have hn := dataLines_nodup h
  obtain ⟨⟨-, hwr, -⟩, -⟩ := controlLines_distinct h
  have hset := levelOf_canonicalSet pins w
  have hclr := levelOf_canonicalClr pins w hn
  have hmask := levelOf_dataMask pins hn
  simp only [encodes, Bool.and_eq_true, beq_iff_eq, and_assoc]
  refine ⟨word_ext_level fun p => ?setOnData, word_ext_level fun p => ?clrOnDataAndWr, word_ext_level fun p => ?clrNamesWr,
    word_ext_level fun p => ?bothNameData, word_ext_level fun p => ?placesWord⟩
  case setOnData =>
    by_cases hp : p ∈ pins.d.toList <;> simp [levelOf_and, levelOf_not, levelOf_zero, hset, hmask, hp]
  case clrOnDataAndWr =>
    by_cases hp : p ∈ pins.d.toList <;>
      simp [levelOf_and, levelOf_or, levelOf_not, levelOf_zero, levelOf_wrBit, hclr, hmask, hp]
  case clrNamesWr =>
    by_cases hw : p = pins.wr <;> simp [levelOf_and, levelOf_wrBit, hclr, hw]
  case bothNameData =>
    by_cases hp : p ∈ pins.d.toList
    · cases hbit : levelOf (place pins w) p <;> simp [levelOf_and, levelOf_or, hset, hclr, hmask, hp, hbit]
    · simp [levelOf_and, hmask, hp]
  case placesWord =>
    by_cases hp : p ∈ pins.d.toList
    · have hne : p ≠ pins.wr := fun e => hwr (e ▸ hp)
      simp [levelOf_and, levelOf_not, hset, hclr, hmask, hp, hne]
    · simp [levelOf_and, levelOf_place_notData, hmask, hp]

/-- Settles O9. A launch succeeds exactly on an admitted configuration, so the parts of the check hold after it, and a
configuration that lacks one of them is refused; the canonical entry is `encodes_canonical`. -/
theorem onlyCheckedConfigurationsAreLaunched : Obligations.OnlyCheckedConfigurationsAreLaunched := by
  refine ⟨fun c v l t ht => ?launched, fun c v l hfail => ?refused, fun pins w h => encodes_canonical pins w h⟩
  case launched =>
    obtain ⟨h, rfl⟩ := (launch_eq_next_iff c v l t).1 ht
    obtain ⟨hpins, -, -, hcommand, hcolour⟩ := (configAdmitted_iff c).1 h
    exact ⟨rfl, hpins, hcommand, hcolour⟩
  case refused =>
    refine launch_refused_of_not_admitted c v l fun h => ?_
    obtain ⟨hpins, -, -, hcommand, hcolour⟩ := (configAdmitted_iff c).1 h
    rcases hfail with hdup | ⟨b, hb⟩ | ⟨i, hi⟩
    · exact hdup hpins
    · simp [hcommand b] at hb
    · simp [hcolour i] at hi

/-! ## The reset values (10_state.md R51) -/

theorem statusWord_reset : statusWord Status.reset = 0 := by decide

/-- Settles O41. A block reset and a launch write the fields R51 names with the values they have in `State.reset`, whatever
the state, the configuration and the lines. -/
theorem resetStateHasTheGivenValues : Obligations.ResetStateHasTheGivenValues := by
  refine ⟨⟨rfl, rfl, rfl, rfl, statusWord_reset, rfl, rfl⟩,
    fun s => ⟨rfl, rfl, rfl, rfl, statusWord_reset, rfl, rfl⟩, fun c v l t ht => ?_⟩
  obtain ⟨h, rfl⟩ := (launch_eq_next_iff c v l t).1 ht
  exact ⟨rfl, rfl, rfl, rfl, rfl, statusWord_reset, rfl, rfl⟩

end Sys2Proof.Machine
end

section
/-! The statements about the GPIO port: what each primitive writes (20_memory.md R76, R77), and that nothing the block does
reads a line back (R78). -/

namespace Sys2Proof.Machine

/-! ## What the primitives write -/

/-- Settles O12. Each primitive is one record update of OUT and the trace; the levels are those of the masks it applies. -/
theorem gpioPrimitivesMoveTheNamedLines : Obligations.GpioPrimitivesMoveTheNamedLines := by
  refine fun s m p v => ⟨⟨s.out ||| m, rfl, fun q => ?raised⟩, ⟨s.out &&& ~~~m, rfl, fun q => ?lowered⟩,
    ⟨withLine s.out p v, rfl, fun q => levelOf_withLine s.out p q v⟩⟩
  case raised => rw [levelOf_or, Bool.or_comm]
  case lowered => rw [levelOf_and, levelOf_not]

/-! ## What turns a request away, and one turn of the pixel loop -/

section

variable (i : Instr) (body : State → State) (s : State)

theorem runRequest_of_busy (hb : s.status.busy = true) : runRequest i body s = .next (raise .busyViolation s) := by
  simp [runRequest, start, hb]

theorem runRequest_of_heldFault (hb : s.status.busy = false) (hf : s.status.fault.isSome = true) :
    runRequest i body s = .next s := by
  simp [runRequest, start, hb, hf]

theorem runRequest_of_failedCheck {c : FaultCode} (hb : s.status.busy = false) (hf : s.status.fault = none)
    (hc : startFault i { s with latches := latchRequest i s.descriptor } = some c) :
    runRequest i body s = .next (raise c { s with latches := latchRequest i s.descriptor }) := by
  simp [runRequest, start, hb, hf, hc]

theorem sendPixel_of_unreadable (hr : readPixel s.fb s.latches s.sent = none) :
    sendPixel s = .error (raise .bufOob (goto (.rRd s.sent) s)) := by
  simp [sendPixel, hr, goto]

theorem sendPixel_of_read (b : Byte) (hr : readPixel s.fb s.latches s.sent = some b) :
    sendPixel s = .ok (countPixel (transfer .colour b (holdPixel b (goto (.rRd s.sent) s)))) := by
  simp [sendPixel, hr, goto]

end

/-! ## States that differ in OUT alone

Nothing in the block's operations reads OUT but to write OUT, so each of them, applied to two states that differ in OUT alone,
answers two such states. One rule an operation; the bodies of the requests and the sequencer are put together from them. -/

/-- `t` is `s` but for OUT. -/
def SameButOut (s t : State) : Prop := ∃ v, t = { s with out := v }

namespace SameButOut

variable {s t : State}

/-! ### The fields the block reads -/

theorem config : ∀ {s t}, SameButOut s t → t.config = s.config
  | _, _, ⟨_, rfl⟩ => rfl

theorem status : ∀ {s t}, SameButOut s t → t.status = s.status
  | _, _, ⟨_, rfl⟩ => rfl

theorem seq : ∀ {s t}, SameButOut s t → t.seq = s.seq
  | _, _, ⟨_, rfl⟩ => rfl

theorem latches : ∀ {s t}, SameButOut s t → t.latches = s.latches
  | _, _, ⟨_, rfl⟩ => rfl

theorem total : ∀ {s t}, SameButOut s t → t.total = s.total
  | _, _, ⟨_, rfl⟩ => rfl

theorem sent : ∀ {s t}, SameButOut s t → t.sent = s.sent
  | _, _, ⟨_, rfl⟩ => rfl

theorem pixel : ∀ {s t}, SameButOut s t → t.pixel = s.pixel
  | _, _, ⟨_, rfl⟩ => rfl

theorem fb : ∀ {s t}, SameButOut s t → t.fb = s.fb
  | _, _, ⟨_, rfl⟩ => rfl

/-! ### The operations of one record update -/

theorem gpioSet (m : Word) : ∀ {s t}, SameButOut s t → SameButOut (gpioSet m s) (gpioSet m t)
  | _, _, ⟨_, rfl⟩ => ⟨_, rfl⟩

theorem gpioClr (m : Word) : ∀ {s t}, SameButOut s t → SameButOut (gpioClr m s) (gpioClr m t)
  | _, _, ⟨_, rfl⟩ => ⟨_, rfl⟩

theorem lineWrite (p : Line) (v : Bool) : ∀ {s t}, SameButOut s t → SameButOut (lineWrite p v s) (lineWrite p v t)
  | _, _, ⟨_, rfl⟩ => ⟨_, rfl⟩

theorem delayMs (n : Nat) : ∀ {s t}, SameButOut s t → SameButOut (delayMs n s) (delayMs n t)
  | _, _, ⟨_, rfl⟩ => ⟨_, rfl⟩

theorem goto (q : Seq) : ∀ {s t}, SameButOut s t → SameButOut (goto q s) (goto q t)
  | _, _, ⟨_, rfl⟩ => ⟨_, rfl⟩

theorem raise (c : FaultCode) : ∀ {s t}, SameButOut s t → SameButOut (raise c s) (raise c t)
  | _, _, ⟨_, rfl⟩ => ⟨_, rfl⟩

theorem complete : ∀ {s t}, SameButOut s t → SameButOut (complete s) (complete t)
  | _, _, ⟨_, rfl⟩ => ⟨_, rfl⟩

theorem completeInit : ∀ {s t}, SameButOut s t → SameButOut (completeInit s) (completeInit t)
  | _, _, ⟨_, rfl⟩ => ⟨_, rfl⟩

theorem openStream : ∀ {s t}, SameButOut s t → SameButOut (openStream s) (openStream t)
  | _, _, ⟨_, rfl⟩ => ⟨_, rfl⟩

theorem holdPixel (i : Byte) : ∀ {s t}, SameButOut s t → SameButOut (holdPixel i s) (holdPixel i t)
  | _, _, ⟨_, rfl⟩ => ⟨_, rfl⟩

theorem countPixel : ∀ {s t}, SameButOut s t → SameButOut (countPixel s) (countPixel t)
  | _, _, ⟨_, rfl⟩ => ⟨_, rfl⟩

/-! ### Transfers -/

theorem transfer (p : LutPair) (i : Byte) : ∀ {s t}, SameButOut s t → SameButOut (transfer p i s) (transfer p i t)
  | _, _, ⟨_, rfl⟩ => ⟨_, rfl⟩

theorem byteTransfer (x : ByteTx) : ∀ {s t}, SameButOut s t → SameButOut (byteTransfer x s) (byteTransfer x t)
  | _, _, ⟨_, rfl⟩ => ⟨_, rfl⟩

theorem sendAll (l : List ByteTx) (h : SameButOut s t) : SameButOut (sendAll l s) (sendAll l t) := by
  induction l generalizing s t with
  | nil => exact h
  | cons x l ih => exact ih (h.byteTransfer x)

/-! ### Bodies of the requests -/

theorem setWindowBody (h : SameButOut s t) : SameButOut (setWindowBody s) (setWindowBody t) := by
  simp only [Machine.setWindowBody, sendAll_config, h.config, h.latches]
  exact (h.sendAll _).lineWrite _ _

theorem idleHigh : ∀ {s t}, SameButOut s t → SameButOut (idleHigh s) (idleHigh t)
  | _, _, ⟨_, rfl⟩ => ⟨_, rfl⟩

theorem resetPulse : ∀ {s t}, SameButOut s t → SameButOut (resetPulse s) (resetPulse t)
  | _, _, ⟨_, rfl⟩ => ⟨_, rfl⟩

theorem sendInitSeq (h : SameButOut s t) : SameButOut (sendInitSeq s) (sendInitSeq t) := by
  simp only [Machine.sendInitSeq, h.config]
  exact h.sendAll _

theorem sleepExit : ∀ {s t}, SameButOut s t → SameButOut (sleepExit s) (sleepExit t)
  | _, _, ⟨_, rfl⟩ => ⟨_, rfl⟩

theorem displayOn : ∀ {s t}, SameButOut s t → SameButOut (displayOn s) (displayOn t)
  | _, _, ⟨_, rfl⟩ => ⟨_, rfl⟩

/-- Both streams read the same byte in a turn, so both end or both go on. -/
theorem stream (k : Nat) (h : SameButOut s t) :
    SameButOut (closeStream (sendPixels k s)) (closeStream (sendPixels k t)) := by
  induction k generalizing s t with
  | zero => exact h.complete
  | succ k ih =>
    have hread : readPixel t.fb t.latches t.sent = readPixel s.fb s.latches s.sent := by rw [h.fb, h.latches, h.sent]
    have hpos := h.goto (.rRd s.sent)
    cases hs : readPixel s.fb s.latches s.sent with
    | none =>
      simp only [sendPixels, sendPixel_of_unreadable _ hs, sendPixel_of_unreadable _ (hread.trans hs), h.sent]
      exact hpos.raise .bufOob
    | some i =>
      simp only [sendPixels, sendPixel_of_read _ i hs, sendPixel_of_read _ i (hread.trans hs), h.sent]
      exact ih ((hpos.holdPixel i).transfer .colour i).countPixel

theorem renderBody (h : SameButOut s t) : SameButOut (renderBody s) (renderBody t) := by
  have hopen := h.setWindowBody.openStream
  simp only [Machine.renderBody, hopen.total]
  exact hopen.stream _

/-! ### Sub-phases of the sequencer -/

/-- A step of a transfer answers states that differ in OUT alone, and the same sub-phase. -/
theorem stepCore (p : LutPair) (i : Byte) (q : CorePhase) (h : SameButOut s t) :
    SameButOut (stepCore p i q s).1 (stepCore p i q t).1 ∧ (stepCore p i q t).2 = (stepCore p i q s).2 := by
  simp only [Machine.stepCore, h.config]
  cases q with
  | set => exact ⟨h.gpioSet _, rfl⟩
  | clr => exact ⟨h.gpioClr _, rfl⟩
  | wr => exact ⟨h.lineWrite _ _, rfl⟩
  | padl k | padh k => exact ⟨h, rfl⟩

theorem stepTx (x : ByteTx) (p : TxPhase) (h : SameButOut s t) :
    SameButOut (stepTx x p s).1 (stepTx x p t).1 ∧ (stepTx x p t).2 = (stepTx x p s).2 := by
  simp only [Machine.stepTx, h.config]
  cases p with
  | dc => exact ⟨h.lineWrite _ _, rfl⟩
  | core q =>
    obtain ⟨hs, hq⟩ := h.stepCore .command x.2 q
    exact ⟨hs, congrArg (Option.map TxPhase.core) hq⟩

theorem continueTx {α : Type} (at_ : α → Seq) {fin : State → State} {r u : State × Option α}
    (hfin : ∀ {s t}, SameButOut s t → SameButOut (fin s) (fin t)) (h : SameButOut r.1 u.1 ∧ u.2 = r.2) :
    SameButOut (continueTx at_ fin r) (continueTx at_ fin u) := by
  obtain ⟨hs, hq⟩ := h
  unfold Machine.continueTx
  rw [hq]
  cases r.2 with
  | none => exact hfin hs
  | some q => exact hs.goto (at_ q)

theorem nextPixel (h : SameButOut s t) : SameButOut (nextPixel s) (nextPixel t) := by
  simp only [Machine.nextPixel, h.sent, h.total]
  split
  case isTrue => exact h.goto _
  case isFalse => exact h.complete

end SameButOut

/-! ## Outcomes that differ in OUT alone -/

/-- Both answer a next state, the two the same but for OUT, or both stop with the same fault. -/
inductive SameOutcomeButOut : Host.Outcome State Fault Refusal → Host.Outcome State Fault Refusal → Prop
  | next {s t : State} (h : SameButOut s t) : SameOutcomeButOut (.next s) (.next t)
  | fault (r : Fault) : SameOutcomeButOut (.fault r) (.fault r)

theorem SameOutcomeButOut.next_of_next {a b : Host.Outcome State Fault Refusal} {t : State} (h : SameOutcomeButOut a b)
    (ha : a = .next t) : ∃ w, b = .next { t with out := w } := by
  cases h with
  | next h =>
    obtain ⟨w, rfl⟩ := h
    cases ha
    exact ⟨w, rfl⟩
  | fault r => cases ha

namespace SameButOut

variable {s t : State}

/-! ### Whole requests -/

theorem latch (i : Instr) : ∀ {s t}, SameButOut s t →
    SameButOut { s with latches := latchRequest i s.descriptor } { t with latches := latchRequest i t.descriptor }
  | _, _, ⟨_, rfl⟩ => ⟨_, rfl⟩

theorem begun (q : Seq) : ∀ {s t}, SameButOut s t →
    SameButOut { s with status := s.status.start, seq := q } { t with status := t.status.start, seq := q }
  | _, _, ⟨_, rfl⟩ => ⟨_, rfl⟩

/-- The start checks read the status and the latches, no line. -/
theorem startFault (i : Instr) : ∀ {s t}, SameButOut s t → startFault i t = startFault i s
  | _, _, ⟨_, rfl⟩ => by cases i <;> rfl

/-- The two are turned away alike or start alike, so a body that keeps the relation answers alike. -/
theorem runRequest (i : Instr) {body : State → State} (hbody : ∀ {s t}, SameButOut s t → SameButOut (body s) (body t))
    (h : SameButOut s t) : SameOutcomeButOut (runRequest i body s) (runRequest i body t) := by
  have hlatch := h.latch i
  cases hb : s.status.busy with
  | true =>
    rw [runRequest_of_busy i body s hb, runRequest_of_busy i body t (h.status ▸ hb)]
    exact .next (h.raise .busyViolation)
  | false =>
    have hbt : t.status.busy = false := h.status ▸ hb
    cases hf : s.status.fault with
    | some c =>
      have hs : s.status.fault.isSome = true := Option.isSome_of_eq_some hf
      rw [runRequest_of_heldFault i body s hb hs, runRequest_of_heldFault i body t hbt (h.status ▸ hs)]
      exact .next h
    | none =>
      have hft : t.status.fault = none := h.status ▸ hf
      have hchecks := hlatch.startFault i
      cases hc : Machine.startFault i { s with latches := latchRequest i s.descriptor } with
      | some c =>
        rw [runRequest_of_failedCheck i body s hb hf hc, runRequest_of_failedCheck i body t hbt hft (hchecks.trans hc)]
        exact .next (hlatch.raise c)
      | none =>
        rw [runRequest_of_checks i body s hb hf hc, runRequest_of_checks i body t hbt hft (hchecks.trans hc)]
        exact .next (hbody (hlatch.begun (firstPhase i)))

theorem exec (i : Instr) (h : SameButOut s t) : SameOutcomeButOut (exec i s) (exec i t) := by
  cases i with
  | begin => exact h.runRequest _ fun h => h.idleHigh.resetPulse.sendInitSeq.sleepExit.displayOn.completeInit
  | setwin => exact h.runRequest _ fun h => h.setWindowBody.complete
  | render => exact h.runRequest _ renderBody
  | wrcmd | wrdata =>
    refine h.runRequest _ fun h => ?_
    rw [h.latches]
    exact (h.byteTransfer _).complete

/-! ### One step of the block -/

theorem stepListTx (l : List ByteTx) (at_ : Nat → TxPhase → Seq) {fin : State → State} (j : Nat) (p : TxPhase)
    (hfin : ∀ {s t}, SameButOut s t → SameButOut (fin s) (fin t)) (h : SameButOut s t) :
    SameOutcomeButOut (stepListTx l at_ fin j p s) (stepListTx l at_ fin j p t) := by
  unfold Machine.stepListTx
  cases l[j]? with
  | none => exact .fault _
  | some x =>
    refine .next (continueTx _ (fun h => ?_) (h.stepTx x p))
    split
    case isTrue => exact h.goto _
    case isFalse => exact hfin h

theorem advance (h : SameButOut s t) : SameOutcomeButOut (advance s) (advance t) := by
  simp only [Machine.advance, h.config, h.status, h.seq, h.latches, h.fb, h.sent, h.pixel]
  split
  case isTrue => exact .next h
  cases s.seq with
  | idle | faulted => exact .fault _
  | tx p => exact .next (continueTx _ complete (h.stepTx _ p))
  | bWr | bRst | bRlo | bRhi => exact .next ((h.lineWrite _ _).goto _)
  | bD1 | bD2 | bD3 | bD4 => exact .next ((h.delayMs _).goto _)
  | bSeq j p => exact h.stepListTx _ _ j p (goto _)
  | bSlp p => exact .next (continueTx _ (goto _) (h.stepTx _ p))
  | bOn p => exact .next (continueTx _ completeInit (h.stepTx _ p))
  | wTx j p => exact h.stepListTx _ _ j p (goto _)
  | wDc => exact .next (h.lineWrite _ _).complete
  | rWinTx j p => exact h.stepListTx _ _ j p (goto _)
  | rWinDc => exact .next (h.lineWrite _ _).openStream.nextPixel
  | rRd n =>
    cases readPixel s.fb s.latches s.sent with
    | none => exact .next (h.raise .bufOob)
    | some i => exact .next ((h.holdPixel i).goto _)
  | rPix n p => exact .next (continueTx _ (fun h => h.countPixel.nextPixel) (h.stepCore _ _ p))

end SameButOut

/-- Settles O32. Every operation takes states that differ in OUT alone to such states (`SameButOut.exec`,
`SameButOut.advance`), so the two outcomes are the same but for OUT. -/
theorem noRequestReadsTheLines : Obligations.NoRequestReadsTheLines :=
  ⟨fun i s _ v => (SameButOut.exec i ⟨v, rfl⟩).next_of_next (a := exec i s),
   fun s _ v => (SameButOut.advance ⟨v, rfl⟩).next_of_next (a := advance s)⟩

end Sys2Proof.Machine
end

section
/-! The statements about the descriptor's encoding: which descriptors are illegal (30_encoding.md R105), and what presenting
one does to a quiet block (60_exceptions.md R251, R254). -/

namespace Sys2Proof

/-! ## The illegal descriptors -/

/-- A request without a byte operand is illegal exactly when its BYTE field is used. -/
theorem Descriptor.noByte_isError_iff (d : Descriptor) (i : Instr) : (∃ e, d.noByte i = .error e) ↔ d.byte ≠ 0 := by
  unfold Descriptor.noByte
  split
  case isTrue hb => simp [hb]
  case isFalse hb => simpa using hb

/-- Reserved bits fail first; below them each opcode answers for itself: 1 to 3 fail on a used BYTE, 4 and 5 never, every
other opcode always. -/
theorem decode_isError_iff (d : Descriptor) : (∃ e, decode d = .error e) ↔
    (d.op = 0 ∨ 6 ≤ d.op.toNat) ∨ d.reserved ≠ 0 ∨ (d.op ≠ 4 ∧ d.op ≠ 5 ∧ d.byte ≠ 0) := by
  have hop (k : BitVec 4) : d.op = k ↔ d.op.toNat = k.toNat := BitVec.toNat_inj.symm
  unfold decode
  split
  case isTrue hres => exact ⟨fun _ => .inr (.inl hres), fun _ => ⟨_, rfl⟩⟩
  case isFalse hunused =>
    have hres := not_not.1 hunused
    split
    case h_1 h | h_2 h | h_3 h => simp [d.noByte_isError_iff, hop, hres, h]
    case h_4 h | h_5 h => simp [hop, hres, h]
    case h_6 h1 h2 h3 h4 h5 =>
      have hlisted : d.op = 0 ∨ 6 ≤ d.op.toNat := by rw [hop]; grind
      exact ⟨fun _ => .inl hlisted, fun _ => ⟨_, rfl⟩⟩

end Sys2Proof

namespace Sys2Proof.Machine

/-! ## Presenting one -/

/-- On a quiet block the check of R105 fails first: the fields are latched and `ILLEGAL_REQ` is raised. -/
theorem startIllegal_of_quiet (s : State) (hq : Quiet s) :
    startIllegal s = raise .illegalReq { s with latches := latchDescriptor s.descriptor } := by
  obtain ⟨hbusy, hfault⟩ := hq
  simp [startIllegal, hbusy, hfault]

theorem startRequest_of_illegal (v : Word) (s : State) (e : DecodeError) (hq : Quiet s)
    (he : decode ⟨v, s.req1, s.req2, s.req3⟩ = .error e) : startRequest v s =
      raise .illegalReq { s with req0 := v, latches := latchDescriptor ⟨v, s.req1, s.req2, s.req3⟩ } := by
  simp only [startRequest, State.descriptor, he]
  exact startIllegal_of_quiet { s with req0 := v } hq

/-- A first fault in a block that is not busy changes the fault code alone of STATUS. -/
theorem Status.raise_of_quiet (c : FaultCode) (t : Status) (hbusy : t.busy = false) (hfault : t.fault = none) :
    t.raise c = { t with fault := some c } := by
  simp [Status.raise, hbusy, hfault]

/-- Settles O4. The illegal descriptors are those of `decode_isError_iff`; written to a quiet block, one only stores REQ0,
latches its fields and raises the fault, none of which moves a line or emits an event. -/
theorem illegalDescriptorsFaultAtStart : Obligations.IllegalDescriptorsFaultAtStart := by
  refine ⟨decode_isError_iff, fun s v e hq he => ⟨_, rfl, ?_⟩⟩
  rw [startRequest_of_illegal v s e hq he]
  obtain ⟨hbusy, hfault⟩ := hq
  exact ⟨Status.raise_of_quiet _ _ hbusy hfault, rfl, by simp [hfault], rfl, rfl, rfl⟩

end Sys2Proof.Machine
end

section
/-! The statements about BEGIN: the events it performs (41_panel_init.md R170, R180), and the reset pulse before any transfer
(R173, R174). -/

namespace Sys2Proof.Machine

/-! ## A request as a list of events

What the block performs writes OUT and the trace alone, both by the events it emits, so each operation is one event list and
operations in sequence are the joined lists. -/

/-- The state after the block has performed the events `es` in order. -/
def performEvents (es : List Event) (s : State) : State := { s with out := replay s.out es, trace := s.trace ++ es }

@[simp] theorem performEvents_config (es : List Event) (s : State) : (performEvents es s).config = s.config := rfl
@[simp] theorem performEvents_out (es : List Event) (s : State) : (performEvents es s).out = replay s.out es := rfl
@[simp] theorem performEvents_trace (es : List Event) (s : State) : (performEvents es s).trace = s.trace ++ es := rfl

theorem performEvents_nil (s : State) : performEvents [] s = s := by
  simp [performEvents, replay]

@[simp] theorem performEvents_performEvents (as bs : List Event) (s : State) :
    performEvents bs (performEvents as s) = performEvents (as ++ bs) s := by
  simp [performEvents, replay_append]

theorem gpioSet_eq_performEvents (m : Word) (s : State) : gpioSet m s = performEvents [.set m] s := rfl

theorem gpioClr_eq_performEvents (m : Word) (s : State) : gpioClr m s = performEvents [.clr m] s := rfl

theorem lineWrite_eq_performEvents (p : Line) (v : Bool) (s : State) :
    lineWrite p v s = performEvents [.line p v] s := rfl

theorem delayMs_eq_performEvents (n : Nat) (s : State) : delayMs n s = performEvents [.delay n] s := rfl

theorem transfer_eq_performEvents (t : LutPair) (i : Byte) (s : State) :
    transfer t i s = performEvents (transferEvents s.config t i) s := by
  simp [transfer, pad, gpioSet_eq_performEvents, gpioClr_eq_performEvents, lineWrite_eq_performEvents, transferEvents]

theorem byteTransfer_eq_performEvents (t : ByteTx) (s : State) :
    byteTransfer t s = performEvents (byteEvents s.config t) s := by
  simp [byteTransfer, lineWrite_eq_performEvents, transfer_eq_performEvents, byteEvents]

theorem sendAll_eq_performEvents (l : List ByteTx) (s : State) :
    sendAll l s = performEvents (l.flatMap (byteEvents s.config)) s := by
  induction l generalizing s with
  | nil => exact (performEvents_nil s).symm
  | cons t l ih => simp [sendAll, ih, byteTransfer_eq_performEvents]

/-! ## BEGIN -/

theorem idleHigh_resetPulse_eq_performEvents (s : State) :
    resetPulse (idleHigh s) = performEvents (resetEvents s.config) s := by
  simp [resetPulse, idleHigh, lineWrite_eq_performEvents, delayMs_eq_performEvents, resetEvents]

/-- What BEGIN emits after the reset pulse: steps 3 to 6 (41_panel_init.md R175 to R178). -/
def afterPulseEvents (c : Config) : List Event :=
  (initTxs c).flatMap (byteEvents c) ++ byteEvents c (commandTx c.opSlpout) ++ [.delay tSlpout]
  ++ byteEvents c (commandTx c.opDispon)

theorem beginEvents_eq_reset_append (c : Config) : beginEvents c = resetEvents c ++ afterPulseEvents c := by
  simp [beginEvents, afterPulseEvents]

theorem displayOn_sleepExit_sendInitSeq_eq_performEvents (s : State) :
    displayOn (sleepExit (sendInitSeq s)) = performEvents (afterPulseEvents s.config) s := by
  simp [displayOn, sleepExit, sendInitSeq, sendAll_eq_performEvents, byteTransfer_eq_performEvents,
    delayMs_eq_performEvents, afterPulseEvents]

/-- From a fresh block BEGIN performs its events and completes (41_panel_init.md R170). -/
theorem exec_begin_of_fresh (s : State) (h : Fresh s) : exec .begin s = .next (completeInit (performEvents
    (beginEvents s.config)
    { s with latches := latchRequest .begin s.descriptor, status := s.status.start, seq := .bWr })) := by
  obtain ⟨⟨hbusy, hfault⟩, hinit⟩ := h
  have hcheck : startFault .begin { s with latches := latchRequest .begin s.descriptor } = none := by
    simp [startFault, checkBegin, hinit]
  refine (runRequest_of_checks .begin _ s hbusy hfault hcheck).trans ?_
  rw [idleHigh_resetPulse_eq_performEvents, displayOn_sleepExit_sendInitSeq_eq_performEvents, performEvents_config,
    performEvents_performEvents, ← beginEvents_eq_reset_append]
  rfl

/-! ## Events that leave a line alone -/

/-- Whatever the lines are, event `e` leaves line `p` at its level. -/
def LeavesLine (p : Line) (e : Event) : Prop := ∀ v : Word, levelOf (outAfter v e) p = levelOf v p

section

variable {p : Line}

theorem leavesLine_set {m : Word} (h : levelOf m p = false) : LeavesLine p (.set m) := fun v => by
  simp [outAfter, levelOf_or, h]

theorem leavesLine_clr {m : Word} (h : levelOf m p = false) : LeavesLine p (.clr m) := fun v => by
  simp [outAfter, levelOf_and, levelOf_not, h]

theorem leavesLine_line {q : Line} (b : Bool) (h : p ≠ q) : LeavesLine p (.line q b) := fun v => by
  simp [outAfter, levelOf_withLine, h]

theorem leavesLine_delay (n : Nat) : LeavesLine p (.delay n) := fun _ => rfl

/-- A write of `p` itself moves it from the other level. -/
theorem not_leavesLine_line_self (b : Bool) : ¬LeavesLine p (.line p b) := fun h => by
  have hmoved := h (withLine 0 p !b)
  simp [outAfter, levelOf_withLine] at hmoved

theorem levelOf_replay_of_leavesLine {es : List Event} (h : ∀ e ∈ es, LeavesLine p e) (v : Word) :
    levelOf (replay v es) p = levelOf v p := by
  induction es generalizing v with
  | nil => rfl
  | cons e es ih =>
    rw [List.forall_mem_cons] at h
    exact (ih h.2 (outAfter v e)).trans (h.1 v)

end

/-! ## The masks of an entry, and the transfers made of them -/

/-- Conditions (a) and (b) of 10_state.md R39, line by line: an entry names data lines and WR alone. -/
theorem levelOf_masks_of_encodes {pins : Pins} {set clr : Word} {w : BusWord} (hn : pins.d.toList.Nodup)
    (h : encodes pins set clr w = true) {p : Line} (hd : p ∉ pins.d.toList) (hw : p ≠ pins.wr) :
    levelOf set p = false ∧ levelOf clr p = false := by
  simp only [encodes, Bool.and_eq_true, beq_iff_eq] at h
  obtain ⟨⟨⟨⟨hset, hclr⟩, -⟩, -⟩, -⟩ := h
  have hs := congrArg (levelOf · p) hset
  have hc := congrArg (levelOf · p) hclr
  constructor
  · simpa [levelOf_and, levelOf_not, levelOf_zero, levelOf_dataMask pins hn, hd] using hs
  · simpa [levelOf_and, levelOf_or, levelOf_not, levelOf_zero, levelOf_wrBit, levelOf_dataMask pins hn, hd, hw] using hc

/-- A byte transfer moves data lines, WR and DC alone. -/
theorem byteEvents_leaveLine (b : Board) (t : ByteTx) {p : Line} (hd : p ∉ b.cfg.pins.d.toList) (hw : p ≠ b.cfg.pins.wr)
    (hdc : p ≠ b.cfg.pins.dc) : ∀ e ∈ byteEvents b.cfg t, LeavesLine p e := by
  obtain ⟨hset, hclr⟩ := levelOf_masks_of_encodes (dataLines_nodup b.nodup) (b.command_encodes t.2) hd hw
  simp only [byteEvents, transferEvents, List.forall_mem_cons]
  exact ⟨leavesLine_line _ hdc, leavesLine_set hset, leavesLine_clr hclr, leavesLine_line _ hw, nofun⟩

theorem levelOf_replay_byteEvents_wr (c : Config) (t : ByteTx) (v : Word) :
    levelOf (replay v (byteEvents c t)) c.pins.wr = true := by
  simp [byteEvents, transferEvents, replay, outAfter, levelOf_withLine]

/-! ## The reset pulse (41_panel_init.md R174) -/

/-- The pulse leaves RST high. -/
theorem levelOf_replay_resetEvents_rst (c : Config) (v : Word) :
    levelOf (replay v (resetEvents c)) c.pins.rst = true := by
  simp [resetEvents, replay, outAfter, levelOf_withLine]

/-- After the pulse BEGIN performs byte transfers and a wait, and RST is none of their lines. -/
theorem afterPulseEvents_leave_rst (b : Board) : ∀ e ∈ afterPulseEvents b.cfg, LeavesLine b.cfg.pins.rst e := by
  obtain ⟨⟨-, -, hd, -⟩, -, hdc, -, -, hw, -⟩ := controlLines_distinct b.nodup
  have hbyte (t : ByteTx) := byteEvents_leaveLine b t hd hw.symm hdc.symm
  simp only [afterPulseEvents, List.forall_mem_append, List.forall_mem_singleton, List.forall_mem_flatMap]
  exact ⟨⟨⟨fun t _ => hbyte t, hbyte _⟩, leavesLine_delay _⟩, hbyte _⟩

/-- BEGIN ends with a byte transfer, which leaves WR high. -/
theorem levelOf_replay_afterPulseEvents_wr (c : Config) (v : Word) :
    levelOf (replay v (afterPulseEvents c)) c.pins.wr = true := by
  rw [afterPulseEvents, replay_append]
  exact levelOf_replay_byteEvents_wr c _ _

/-- Settles O23. BEGIN's events are the pulse, which ends with RST high, and events that leave RST alone, so none of them is
a write of RST and the level stays; the last of them is the WR-high write of a transfer. -/
theorem beginPulsesResetBeforeAnyTransfer : Obligations.BeginPulsesResetBeforeAnyTransfer := by
  intro s h
  have hrst := afterPulseEvents_leave_rst s.cfg
  refine ⟨_, afterPulseEvents s.config, exec_begin_of_fresh s h, ?trace, fun v hv => ?noRstWrite, ?rstHigh, ?wrHigh⟩
  case trace => simp [beginEvents_eq_reset_append, resetEvents]
  case noRstWrite => exact not_leavesLine_line_self v (hrst _ hv)
  case rstHigh =>
    rw [completeInit_out, performEvents_out, beginEvents_eq_reset_append, replay_append]
    exact (levelOf_replay_of_leavesLine hrst _).trans (levelOf_replay_resetEvents_rst _ _)
  case wrHigh =>
    rw [completeInit_out, performEvents_out, beginEvents_eq_reset_append, replay_append]
    exact levelOf_replay_afterPulseEvents_wr _ _

end Sys2Proof.Machine
end

section
/-! The statements about the pixel stream: that grouping the pixels into batches changes nothing (43_pixel_stream.md R223). -/

namespace Sys2Proof.Machine

/-! ## Batches

A turn of the loop knows nothing of the batch it stands in, so what decides the result is the number of turns alone. -/

/-- The loop may be cut anywhere: the second part runs where the first one ends, and not at all after a fault. -/
theorem sendPixels_add (m n : Nat) (s : State) : sendPixels (m + n) s = (sendPixels m s).bind (sendPixels n) := by
  induction m generalizing s with
  | zero => rw [Nat.zero_add]; rfl
  | succ m ih =>
    rw [Nat.succ_add]
    simp only [sendPixels]
    cases sendPixel s with
    | error t => rfl
    | ok t => exact ih t

theorem sendBatches_succ (u q : Nat) (s : State) :
    sendBatches u (q + 1) s = (sendPixels u s).bind (sendBatches u q) := by
  cases h : sendPixels u s <;> simp only [sendBatches, h, Except.bind]

theorem sendBatches_eq_sendPixels (u q : Nat) : sendBatches u q = sendPixels (u * q) := by
  induction q with
  | zero => rfl
  | succ q ih =>
    funext s
    calc sendBatches u (q + 1) s
      _ = (sendPixels u s).bind (sendBatches u q) := sendBatches_succ u q s
      _ = (sendPixels u s).bind (sendPixels (u * q)) := by rw [ih]
      _ = sendPixels (u + u * q) s := (sendPixels_add _ _ s).symm
      _ = sendPixels (u * (q + 1)) s := by rw [Nat.mul_succ, Nat.add_comm]

theorem sendBatched_eq_bind (u k : Nat) (s : State) :
    sendBatched u k s = (sendBatches u (k / u) s).bind (sendPixels (k % u)) := by
  cases h : sendBatches u (k / u) s <;> simp only [sendBatched, h, Except.bind]

/-- The batches and the single pixels after them are `k` turns. An unroll factor of 0 leaves every pixel to the single
loop (`k / 0 = 0`, `k % 0 = k`), so no premise on `u` is needed. -/
theorem sendBatched_eq_sendPixels (u k : Nat) (s : State) : sendBatched u k s = sendPixels k s := by
  rw [sendBatched_eq_bind, sendBatches_eq_sendPixels, ← sendPixels_add, Nat.div_add_mod]

theorem renderBodyBatched_eq_renderBody (s : State) : renderBodyBatched s = renderBody s :=
  congrArg closeStream (sendBatched_eq_sendPixels _ _ _)

/-- Settles O27. `q` batches are `u * q` turns of the single loop (`sendBatches_eq_sendPixels`), and the loop may be cut
after them (`sendPixels_add`), so `k / u` batches and `k % u` single pixels are the `k` turns. -/
theorem batchingIsTheSingleLoop : Obligations.BatchingIsTheSingleLoop :=
  ⟨fun u k s _ => sendBatched_eq_sendPixels u k s, renderBodyBatched_eq_renderBody⟩

end Sys2Proof.Machine
end

section
/-! The statements about faults: raising one (60_exceptions.md R252), and the write that interrupts a request (R256). -/

namespace Sys2Proof.Machine

/-! ## Raising a fault -/

/-- Settles O37. `raise` is one record update, so only the code held afterwards depends on whether one was held before. -/
theorem raiseKeepsTheFirstCode : Obligations.RaiseKeepsTheFirstCode := fun c s => by
  refine ⟨rfl, rfl, ?code, rfl, rfl, rfl, rfl, ?position⟩
  case code => cases hfault : s.status.fault <;> simp [Status.raise, hfault]
  case position => exact fun hfault => by simp [hfault]

/-! ## A host write to a register of the block -/

section

variable (s : State)

/-- The access that names an aligned offset of the register block reaches that offset (10_state.md R41). -/
theorem accessOffset_registerAddress {off : Nat} (hlt : off < 0x40) (halign : off % 4 = 0) :
    accessOffset s (registerAddress s off) 4 = .ok off := by
  simp [accessOffset, registerAddress, hlt, halign]

theorem hostWrite_registerAddress (v : Word) {off : Nat} (hlt : off < 0x40) (halign : off % 4 = 0) :
    hostWrite (registerAddress s off) 4 v s = .next (writeRegister off v s) := by
  rw [hostWrite, accessOffset_registerAddress s hlt halign]

/-! ## A write during a request -/

theorem start_of_busy (i : Instr) (hbusy : s.status.busy = true) : start i s = .turnedAway (raise .busyViolation s) :=
  if_pos hbusy

theorem startIllegal_of_busy (hbusy : s.status.busy = true) : startIllegal s = raise .busyViolation s := if_pos hbusy

theorem afterReqWrite_of_busy (hbusy : s.status.busy = true) : afterReqWrite s = raise .busyViolation s := if_pos hbusy

/-- Whether the descriptor decodes makes no difference: both ways of presenting it look at BUSY first. -/
theorem startRequest_of_busy (v : Word) (hbusy : s.status.busy = true) :
    startRequest v s = raise .busyViolation { s with req0 := v } := by
  cases hdecode : decode ⟨v, s.req1, s.req2, s.req3⟩ with
  | error _ =>
    simp only [startRequest, State.descriptor, hdecode]
    exact startIllegal_of_busy { s with req0 := v } hbusy
  | ok i => simp only [startRequest, State.descriptor, hdecode, start_of_busy { s with req0 := v } i hbusy]

/-- The write stores into the request registers alone, and `BUSY_VIOLATION` is raised on what it stored. -/
theorem writeRegister_of_busy {off : Nat} (v : Word) (hbusy : s.status.busy = true)
    (hoff : off ∈ [0x00, 0x04, 0x08, 0x0C]) : ∃ r0 r1 r2 r3 : Word,
      writeRegister off v s = raise .busyViolation { s with req0 := r0, req1 := r1, req2 := r2, req3 := r3 } := by
  simp only [List.mem_cons, List.not_mem_nil, or_false] at hoff
  obtain rfl | rfl | rfl | rfl := hoff
  · exact ⟨v, s.req1, s.req2, s.req3, startRequest_of_busy s v hbusy⟩
  · exact ⟨s.req0, v, s.req2, s.req3, afterReqWrite_of_busy { s with req1 := v } hbusy⟩
  · exact ⟨s.req0, s.req1, v, s.req3, afterReqWrite_of_busy { s with req2 := v } hbusy⟩
  · exact ⟨s.req0, s.req1, s.req2, v, afterReqWrite_of_busy { s with req3 := v } hbusy⟩

end

/-- The request registers stand at aligned offsets of the register block. -/
theorem requestOffset_lt_and_aligned : ∀ off ∈ [0x00, 0x04, 0x08, 0x0C], off < 0x40 ∧ off % 4 = 0 := by decide

/-- Settles O40. The write reaches its register (`hostWrite_registerAddress`), and while BUSY = 1 each of the four registers
stores and then raises (`writeRegister_of_busy`); what `raise` keeps and changes is read off it field by field. -/
theorem writeDuringARequestStopsIt : Obligations.WriteDuringARequestStopsIt := by
  intro s off v ms hbusy hfault hoff hschedule
  obtain ⟨hlt, halign⟩ := requestOffset_lt_and_aligned off hoff
  obtain ⟨r0, r1, r2, r3, hwrite⟩ := writeRegister_of_busy { s with schedule := ms } v hbusy hoff
  have hstep : step s = .next (raise .busyViolation
      { s with schedule := ms, req0 := r0, req1 := r1, req2 := r2, req3 := r3 }) := by
    rw [step, hschedule]
    exact (hostWrite_registerAddress { s with schedule := ms } v hlt halign).trans (congrArg _ hwrite)
  refine ⟨_, hstep, ?status, rfl, ?faultAt, rfl, rfl, rfl, rfl, rfl⟩
  case status => simp [Status.raise, hfault]
  case faultAt => simp [hfault]

end Sys2Proof.Machine
end

section
/-! The statements about the encoding: decoder, encoder and the mask and match table agree (30_encoding.md R101 to R106), the
latches are the descriptor's fields (60_exceptions.md R254), and a well-formed line keeps its numbers (30_encoding.md R112). -/

namespace Sys2Proof

/-! ## The decoder, read both ways -/

/-- The words of `d` hold the operands of `i` that stand outside `REQ0` (30_encoding.md R101, R102). -/
def Descriptor.CarriesOperands (d : Descriptor) : Instr → Prop
  | .setwin x0 y0 x1 y1 => d.x0 = x0 ∧ d.y0 = y0 ∧ d.x1 = x1 ∧ d.y1 = y1
  | .render x0 y0 x1 y1 buf => d.x0 = x0 ∧ d.y0 = y0 ∧ d.x1 = x1 ∧ d.y1 = y1 ∧ d.buf = buf
  | .begin | .wrcmd _ | .wrdata _ => True

theorem Descriptor.noByte_eq_ok_iff (d : Descriptor) (i j : Instr) : d.noByte i = .ok j ↔ d.byte = 0 ∧ i = j := by
  unfold Descriptor.noByte
  split
  case isTrue hbyte => simp [hbyte]
  case isFalse hbyte => exact ⟨nofun, fun h => absurd h.1 hbyte⟩

/-- The decoder answers `i` exactly for the descriptors whose fields are those of `i`: the opcode decides which request is
read, and each request then names its own fields. -/
theorem decode_eq_ok_iff (d : Descriptor) (i : Instr) : decode d = .ok i ↔
    d.reserved = 0 ∧ d.op = opOf i ∧ d.byte = byteOf i ∧ d.CarriesOperands i := by
  have hop (k : BitVec 4) : d.op = k ↔ d.op.toNat = k.toNat := BitVec.toNat_inj.symm
  unfold decode
  split
  case isTrue hres => exact ⟨nofun, fun h => absurd h.1 hres⟩
  case isFalse hunused =>
    have hres := not_not.1 hunused
    split
    case h_1 h | h_2 h | h_3 h =>
      cases i <;> simp [Descriptor.noByte_eq_ok_iff, Descriptor.CarriesOperands, opOf, byteOf, hop, hres, h]
    case h_4 h | h_5 h => cases i <;> simp [Descriptor.CarriesOperands, opOf, byteOf, hop, hres, h]
    case h_6 h1 h2 h3 h4 h5 =>
      refine ⟨nofun, fun ⟨_, hi, _⟩ => ?_⟩
      rw [hop] at hi
      cases i with
      | begin => exact (h1 hi).elim
      | setwin => exact (h2 hi).elim
      | render => exact (h3 hi).elim
      | wrcmd => exact (h4 hi).elim
      | wrdata => exact (h5 hi).elim

/-! ## The fields of an encoded descriptor -/

/-- The high and the low half of a joined word are the parts it was made of. -/
theorem extractLsb'_cornerOf (x y : Coord) :
    (cornerOf x y).extractLsb' 0 16 = x ∧ (cornerOf x y).extractLsb' 16 16 = y := by
  constructor <;> apply BitVec.eq_of_getLsbD_eq <;> intro k hk <;>
    simp only [cornerOf, BitVec.getLsbD_extractLsb', BitVec.getLsbD_append, hk, decide_true, Bool.true_and] <;> simp [hk]

/-- A corner word is the corner of its two halves. -/
theorem cornerOf_extractLsb' (w : Word) : cornerOf (w.extractLsb' 0 16) (w.extractLsb' 16 16) = w := by
  apply BitVec.eq_of_getLsbD_eq
  intro k hk
  simp only [cornerOf, BitVec.getLsbD_append, BitVec.getLsbD_extractLsb']
  by_cases hlow : k < 16
  · simp [hlow]
  · simp [hlow, show k - 16 < 16 by omega, show 16 + (k - 16) = k by omega]

/-- `REQ0` is made of its fields, the reserved ones 0. -/
theorem req0Of_fields (d : Descriptor) (hres : d.reserved = 0) : req0Of d.op d.byte = d.req0 := by
  have hbit (k : ℕ) (hk : 12 ≤ k) (hk' : k < 32) : d.req0.getLsbD k = false := by
    have h := congrArg (fun r : BitVec 20 => r.getLsbD (k - 12)) hres
    simpa [Descriptor.reserved, show k - 12 < 20 by omega, show 12 + (k - 12) = k by omega] using h
  apply BitVec.eq_of_getLsbD_eq
  intro k hk
  simp only [req0Of, BitVec.getLsbD_append, Descriptor.op, Descriptor.byte, BitVec.getLsbD_extractLsb']
  by_cases hop : k < 4
  · simp [hop]
  · by_cases hbyte : k < 12
    · simp [hop, show k - 4 < 8 by omega, show 4 + (k - 4) = k by omega]
    · simp [hop, show ¬k - 4 < 8 by omega, hbit k (by omega) hk]

theorem encode_req0 (i : Instr) : (encode i).req0 = req0Of (opOf i) (byteOf i) := by cases i <;> rfl

theorem encode_fieldsMatchRow (i : Instr) : Laws.EncodeMatchesItsRow.Statement i := by
  cases i with
  | begin => exact Laws.EncodeMatchesItsRow.begin
  | setwin => exact Laws.EncodeMatchesItsRow.setwin _ _ _ _
  | render => exact Laws.EncodeMatchesItsRow.render _ _ _ _ _
  | wrcmd b => exact Laws.EncodeMatchesItsRow.wrcmd b
  | wrdata b => exact Laws.EncodeMatchesItsRow.wrdata b

theorem encode_carriesOperands (i : Instr) : (encode i).CarriesOperands i := by
  cases i with
  | begin | wrcmd | wrdata => trivial
  | setwin x0 y0 x1 y1 =>
    obtain ⟨hx0, hy0⟩ := extractLsb'_cornerOf x0 y0
    obtain ⟨hx1, hy1⟩ := extractLsb'_cornerOf x1 y1
    exact ⟨hx0, hy0, hx1, hy1⟩
  | render x0 y0 x1 y1 buf =>
    obtain ⟨hx0, hy0⟩ := extractLsb'_cornerOf x0 y0
    obtain ⟨hx1, hy1⟩ := extractLsb'_cornerOf x1 y1
    exact ⟨hx0, hy0, hx1, hy1, rfl⟩

/-- Settles O1. The encoded descriptor has the fields of the request, which are what the decoder asks for. -/
theorem decodeOfEncodeIsTheRequest : Obligations.DecodeOfEncodeIsTheRequest := fun i => by
  obtain ⟨hres, hop, hbyte, -⟩ := encode_fieldsMatchRow i
  exact (decode_eq_ok_iff _ i).2 ⟨hres, hop, hbyte, encode_carriesOperands i⟩

/-- A descriptor that decodes to `i` has the encoded `REQ0`. -/
theorem encode_req0_of_decode {d : Descriptor} {i : Instr} (h : decode d = .ok i) : (encode i).req0 = d.req0 := by
  obtain ⟨hres, hop, hbyte, -⟩ := (decode_eq_ok_iff d i).1 h
  rw [encode_req0, ← hop, ← hbyte, req0Of_fields d hres]

/-- Settles O2. `REQ0` is made of its fields (`req0Of_fields`), a corner word of its halves (`cornerOf_extractLsb'`), and
both sides have the same fields. -/
theorem encodeOfDecodeKeepsUsedWords : Obligations.EncodeOfDecodeKeepsUsedWords := fun d i h => by
  refine ⟨encode_req0_of_decode h, ?_⟩
  obtain ⟨-, -, -, hcarries⟩ := (decode_eq_ok_iff d i).1 h
  cases i with
  | begin | wrcmd | wrdata => trivial
  | setwin x0 y0 x1 y1 =>
    obtain ⟨rfl, rfl, rfl, rfl⟩ := hcarries
    exact ⟨cornerOf_extractLsb' d.req1, cornerOf_extractLsb' d.req2⟩
  | render x0 y0 x1 y1 buf =>
    obtain ⟨rfl, rfl, rfl, rfl, rfl⟩ := hcarries
    exact ⟨cornerOf_extractLsb' d.req1, cornerOf_extractLsb' d.req2, rfl⟩

/-! ## The mask and match table -/

/-- A word that matches a row whose mask leaves out BYTE alone has reserved bits 0 and the row's opcode. -/
theorem fields_of_masked {w p : Word} (h : w &&& 0xFFFFF00F#32 = p) :
    w.extractLsb' 12 20 = p.extractLsb' 12 20 ∧ w.extractLsb' 0 4 = p.extractLsb' 0 4 := by
  have hones : (0xFFFFF00F#32).extractLsb' 12 20 = BitVec.allOnes 20 ∧ (0xFFFFF00F#32).extractLsb' 0 4 = BitVec.allOnes 4 := by
    decide
  subst h
  simp only [BitVec.extractLsb'_and, hones, BitVec.and_allOnes, and_self]

/-- What matches a row of the table decodes: the rows without a BYTE operand name one word each, the other two fix every
field but BYTE. -/
theorem decode_isOk_of_matches (d : Descriptor) : ∀ r ∈ opcodeRows, r.matches d.req0 = true → ∃ i, decode d = .ok i := by
  have whole {p : Word} (i : Instr) (hcarries : d.CarriesOperands i)
      (hp : p.extractLsb' 12 20 = 0 ∧ p.extractLsb' 0 4 = opOf i ∧ p.extractLsb' 4 8 = byteOf i)
      (h : d.req0 &&& 0xFFFFFFFF#32 = p) : ∃ i, decode d = .ok i := by
    rw [show 0xFFFFFFFF#32 = BitVec.allOnes 32 from rfl, BitVec.and_allOnes] at h
    subst h
    obtain ⟨hres, hop, hbyte⟩ := hp
    exact ⟨i, (decode_eq_ok_iff d i).2 ⟨hres, hop, hbyte, hcarries⟩⟩
  simp only [opcodeRows, List.forall_mem_cons, OpcodeRow.matches, beq_iff_eq]
  have masked {p : Word} (i : Instr) (hbyte : d.byte = byteOf i) (hcarries : d.CarriesOperands i)
      (hp : p.extractLsb' 12 20 = 0 ∧ p.extractLsb' 0 4 = opOf i) (h : d.req0 &&& 0xFFFFF00F#32 = p) :
      ∃ i, decode d = .ok i := by
    obtain ⟨hres, hop⟩ := fields_of_masked h
    exact ⟨i, (decode_eq_ok_iff d i).2 ⟨hres.trans hp.1, hop.trans hp.2, hbyte, hcarries⟩⟩
  exact ⟨whole .begin trivial ⟨rfl, rfl, rfl⟩,
    whole (.setwin d.x0 d.y0 d.x1 d.y1) ⟨rfl, rfl, rfl, rfl⟩ ⟨rfl, rfl, rfl⟩,
    whole (.render d.x0 d.y0 d.x1 d.y1 d.buf) ⟨rfl, rfl, rfl, rfl, rfl⟩ ⟨rfl, rfl, rfl⟩,
    masked (.wrcmd d.byte) rfl trivial ⟨rfl, rfl⟩, masked (.wrdata d.byte) rfl trivial ⟨rfl, rfl⟩, nofun⟩

/-- Settles O3. A legal descriptor has the `REQ0` of its request, whose one row the encoder's law names; an illegal one
matches no row, since what matches a row decodes. -/
theorem decoderAgreesWithMaskTable : Obligations.DecoderAgreesWithMaskTable := fun d => by
  cases h : decode d with
  | ok i =>
    obtain ⟨-, -, -, hrow⟩ := encode_fieldsMatchRow i
    rwa [encode_req0_of_decode h] at hrow
  | error e =>
    refine List.filter_eq_nil_iff.2 fun r hr hmatch => ?_
    obtain ⟨i, hi⟩ := decode_isOk_of_matches d r hr hmatch
    exact nomatch h.symm.trans hi

/-- Settles O5. The words are fixed, so the decoder computes each answer. -/
theorem specWordsDecode : Obligations.SpecWordsDecode := by
  unfold Obligations.SpecWordsDecode
  decide

namespace Machine

/-! ## The latches -/

/-- Settles O6. Where the descriptor decodes to the request, the request's operands are the descriptor's fields, so nothing
is latched in their place. -/
theorem latchesAreTheDescriptorFields : Obligations.LatchesAreTheDescriptorFields := fun d i h => by
  obtain ⟨-, hop, hbyte, hcarries⟩ := (decode_eq_ok_iff d i).1 h
  change latchRequest i d = latchDescriptor d
  cases i with
  | begin | wrcmd | wrdata => simp only [latchRequest, latchDescriptor, ← hop, ← hbyte]
  | setwin x0 y0 x1 y1 =>
    obtain ⟨rfl, rfl, rfl, rfl⟩ := hcarries
    simp only [latchRequest, latchDescriptor, ← hop, ← hbyte]
  | render x0 y0 x1 y1 buf =>
    obtain ⟨rfl, rfl, rfl, rfl, rfl⟩ := hcarries
    simp only [latchRequest, latchDescriptor, ← hop, ← hbyte]

/-! ## Source lines -/

/-- A number that fits its field is the field's value. -/
theorem toNat_ofNat_of_fitsByte {v : Nat} (h : fitsByte v = true) : (BitVec.ofNat 8 v).toNat = v := by
  simpa [fitsByte] using h

theorem toNat_ofNat_of_fitsCoord {v : Nat} (h : fitsCoord v = true) : (BitVec.ofNat 16 v).toNat = v := by
  simpa [fitsCoord] using h

theorem toNat_ofNat_of_fitsWord {v : Nat} (h : fitsWord v = true) : (BitVec.ofNat 32 v).toNat = v := by
  simpa [fitsWord] using h

/-- Settles O7. Each operand is the number cut to its field, which is the number where it fits. -/
theorem wellFormedLineKeepsItsNumbers : Obligations.WellFormedLineKeepsItsNumbers := by
  refine ⟨fun x0 y0 x1 y1 h => ?setwin, fun x1 y1 x2 y2 buf h => ?render,
    fun b h => ⟨_, rfl, toNat_ofNat_of_fitsByte h⟩, fun b h => ⟨_, rfl, toNat_ofNat_of_fitsByte h⟩, fun c ps h => ?cmd⟩
  case setwin =>
    simp only [AsmLine.wellFormed, Bool.and_eq_true, and_assoc] at h
    obtain ⟨hx0, hy0, hx1, hy1⟩ := h
    exact ⟨_, _, _, _, rfl, toNat_ofNat_of_fitsCoord hx0, toNat_ofNat_of_fitsCoord hy0, toNat_ofNat_of_fitsCoord hx1,
      toNat_ofNat_of_fitsCoord hy1⟩
  case render =>
    simp only [AsmLine.wellFormed, Bool.and_eq_true, and_assoc] at h
    obtain ⟨hx1, hy1, hx2, hy2, hbuf⟩ := h
    exact ⟨_, _, _, _, _, rfl, toNat_ofNat_of_fitsCoord hx1, toNat_ofNat_of_fitsCoord hy1, toNat_ofNat_of_fitsCoord hx2,
      toNat_ofNat_of_fitsCoord hy2, toNat_ofNat_of_fitsWord hbuf⟩
  case cmd =>
    simp only [AsmLine.wellFormed, Bool.and_eq_true, List.all_eq_true] at h
    obtain ⟨hc, hps⟩ := h
    refine ⟨.ofNat 8 c, ps.map (.ofNat 8), by simp [lineRequests], toNat_ofNat_of_fitsByte hc, ?_⟩
    rw [List.map_map]
    exact (List.map_congr_left fun p hp => toNat_ofNat_of_fitsByte (hps p hp)).trans ps.map_id

end Machine

end Sys2Proof
end

section
/-! The statements about table entries and transfers: what an entry does to the lines (10_state.md R39), which configurations
pass the check of 41_panel_init.md R172, and what a transfer latches (40_bus_primitive.md R141, R147, R148). -/

namespace Sys2Proof.Machine

/-! ## An entry that encodes a word -/

/-- Conditions (a) to (e) of 10_state.md R39. -/
theorem encodes_iff (pins : Pins) (set clr : Word) (w : BusWord) : encodes pins set clr w = true ↔
    set &&& ~~~dataMask pins = 0 ∧ clr &&& ~~~(dataMask pins ||| wrBit pins) = 0 ∧ clr &&& wrBit pins = wrBit pins ∧
      (set ||| clr) &&& dataMask pins = dataMask pins ∧ (set &&& ~~~clr) &&& dataMask pins = place pins w := by
  simp only [encodes, Bool.and_eq_true, beq_iff_eq, and_assoc]

section

variable {pins : Pins} {set clr : Word} {w : BusWord}

/-- Condition (c): the entry's clear mask names WR. -/
theorem levelOf_clr_wr_of_encodes (h : encodes pins set clr w = true) : levelOf clr pins.wr = true := by
  obtain ⟨-, -, hwr, -, -⟩ := (encodes_iff pins set clr w).1 h
  have hlevel := congrArg (levelOf · pins.wr) hwr
  simpa [levelOf_and, levelOf_wrBit] using hlevel

/-- Conditions (d) and (e), line by line: a data line is named by one of the masks at least, and it is set and not cleared
exactly where the word has a 1. -/
theorem levelOf_masks_data_of_encodes (hn : pins.d.toList.Nodup) (h : encodes pins set clr w = true) {p : Line}
    (hp : p ∈ pins.d.toList) :
    (levelOf set p || levelOf clr p) = true ∧ (levelOf set p && !levelOf clr p) = levelOf (place pins w) p := by
  obtain ⟨-, -, -, hall, hplace⟩ := (encodes_iff pins set clr w).1 h
  have ha := congrArg (levelOf · p) hall
  have he := congrArg (levelOf · p) hplace
  simp only [levelOf_and, levelOf_or, levelOf_not, levelOf_dataMask pins hn, hp, decide_true, Bool.and_true] at ha he
  exact ⟨ha, he⟩

/-- Setting and then clearing the entry's masks puts the word on the data lines, whatever they carried. -/
theorem dataWord_applyMasks_of_encodes (hn : pins.d.toList.Nodup) (h : encodes pins set clr w = true) (s : Word) :
    dataWord pins (applyMasks s set clr) = w := by
  refine dataWord_eq_of_place pins hn _ w fun p hp => ?_
  obtain ⟨hall, hplace⟩ := levelOf_masks_data_of_encodes hn h hp
  rw [levelOf_applyMasks, ← hplace]
  cases hset : levelOf set p <;> cases hclr : levelOf clr p <;> simp_all

/-- It leaves WR low. -/
theorem levelOf_applyMasks_wr_of_encodes (h : encodes pins set clr w = true) (s : Word) :
    levelOf (applyMasks s set clr) pins.wr = false := by
  simp [levelOf_applyMasks, levelOf_clr_wr_of_encodes h]

/-- It leaves every line but the data lines and WR alone. -/
theorem levelOf_applyMasks_other_of_encodes (hn : pins.d.toList.Nodup) (h : encodes pins set clr w = true) (s : Word)
    {p : Line} (hd : p ∉ pins.d.toList) (hw : p ≠ pins.wr) : levelOf (applyMasks s set clr) p = levelOf s p := by
  obtain ⟨hset, hclr⟩ := levelOf_masks_of_encodes hn h hd hw
  simp [levelOf_applyMasks, hset, hclr]

end

/-- Settles O8. -/
theorem encodingEntryPlacesItsWord : Obligations.EncodingEntryPlacesItsWord := fun pins set clr w hpins => by
  have hn := dataLines_nodup hpins
  exact ⟨encodes_iff pins set clr w, fun h s => ⟨dataWord_applyMasks_of_encodes hn h s, levelOf_applyMasks_wr_of_encodes h s,
    fun p hd hw => levelOf_applyMasks_other_of_encodes hn h s hd hw⟩⟩

/-! ## The structure of INIT_SEQ -/

theorem initSeqStructured_iff (q : InitSeq) : initSeqStructured q = true ↔
    q.gamma1.params.length = 15 ∧ q.gamma2.params.length = 15 ∧ [] ∉ configParts q := by
  have hparts : ((configParts q).all fun p => !p.isEmpty) = true ↔ [] ∉ configParts q := by
    simp only [List.all_eq_true, Bool.not_eq_true', List.isEmpty_eq_false_iff]
    exact ⟨fun h hmem => h [] hmem rfl, fun h p hp he => h (he ▸ hp)⟩
  simp only [initSeqStructured, Bool.and_eq_true, beq_iff_eq, hparts, and_assoc]

/-- Settles O10. A launch succeeds exactly on an admitted configuration, and the structure of `INIT_SEQ` and `UNROLL ≥ 1` are
parts of the check. -/
theorem initSeqStructureIsChecked : Obligations.InitSeqStructureIsChecked := by
  refine ⟨fun c v l hlack => ?refused, fun c v l h1 h2 hparts hunroll hpins hcommand hcolour => ?launched⟩
  case refused =>
    refine launch_refused_of_not_admitted c v l fun h => ?_
    obtain ⟨-, hseq, hunroll, -, -⟩ := (configAdmitted_iff c).1 h
    obtain ⟨h1, h2, hparts⟩ := (initSeqStructured_iff c.initSeq).1 hseq
    rcases hlack with h | h | h | h
    · exact h h1
    · exact h h2
    · exact hparts h
    · omega
  case launched =>
    have hok : configAdmitted c = true := (configAdmitted_iff c).2
      ⟨hpins, (initSeqStructured_iff c.initSeq).2 ⟨h1, h2, hparts⟩, hunroll, hcommand, hcolour⟩
    exact ⟨_, (launch_eq_next_iff c v l _).2 ⟨hok, rfl⟩, rfl, rfl⟩

/-! ## The entries of a board -/

/-- The word a transfer through table pair `t` carries for index `i` (30_encoding.md R107 to R109). -/
def entryWord (c : Config) (t : LutPair) (i : Byte) : BusWord :=
  match t with
  | .command => cmdWord i
  | .colour => paletteOf c i

/-- Every entry of both table pairs of a board encodes its word. -/
theorem Board.entry_encodes (b : Board) (t : LutPair) (i : Byte) :
    encodes b.cfg.pins (lutRead b.cfg t.setTable i) (lutRead b.cfg t.clrTable i) (entryWord b.cfg t i) = true := by
  cases t with
  | command => exact b.command_encodes i
  | colour => exact b.colour_encodes i

/-- The masks of a board's entries name data lines and WR alone. -/
theorem Board.levelOf_masks (b : Board) (t : LutPair) (i : Byte) {p : Line} (hd : p ∉ b.cfg.pins.d.toList)
    (hw : p ≠ b.cfg.pins.wr) :
    levelOf (lutRead b.cfg t.setTable i) p = false ∧ levelOf (lutRead b.cfg t.clrTable i) p = false :=
  levelOf_masks_of_encodes (dataLines_nodup b.nodup) (b.entry_encodes t i) hd hw

/-- Settles O11. DC is no data line and not WR, and an entry names those alone. -/
theorem tableMasksLeaveDcAlone : Obligations.TableMasksLeaveDcAlone := fun b t i v => by
  obtain ⟨⟨hd, -⟩, hw, -⟩ := controlLines_distinct b.nodup
  obtain ⟨hset, hclr⟩ := b.levelOf_masks t i hd hw
  exact ⟨hset, hclr, leavesLine_set hset v, leavesLine_clr hclr v, fun p x hp => leavesLine_line x hp.symm v⟩

/-! ## Transfers: the lines they leave alone, their levels, what they latch -/

/-- A transfer moves data lines and WR alone. -/
theorem transferEvents_leaveLine (b : Board) (t : LutPair) (i : Byte) {p : Line} (hd : p ∉ b.cfg.pins.d.toList)
    (hw : p ≠ b.cfg.pins.wr) : ∀ e ∈ transferEvents b.cfg t i, LeavesLine p e := by
  obtain ⟨hset, hclr⟩ := b.levelOf_masks t i hd hw
  simp only [transferEvents, List.forall_mem_cons]
  exact ⟨leavesLine_set hset, leavesLine_clr hclr, leavesLine_line _ hw, nofun⟩

/-- Writing a line that is no data line keeps the data word. -/
theorem dataWord_withLine {pins : Pins} {p : Line} (hp : p ∉ pins.d.toList) (v : Word) (x : Bool) :
    dataWord pins (withLine v p x) = dataWord pins v := by
  refine dataWord_congr pins fun q hq => ?_
  have hne : q ≠ p := fun h => hp (h ▸ hq)
  rw [levelOf_withLine, if_neg hne]

theorem replay_transferEvents (c : Config) (t : LutPair) (i : Byte) (v : Word) : replay v (transferEvents c t i) =
    withLine (applyMasks v (lutRead c t.setTable i) (lutRead c t.clrTable i)) c.pins.wr true := rfl

theorem levelOf_replay_transferEvents_wr (c : Config) (t : LutPair) (i : Byte) (v : Word) :
    levelOf (replay v (transferEvents c t i)) c.pins.wr = true := by
  simp [replay_transferEvents, levelOf_withLine]

/-- A transfer leaves its word on the data lines. -/
theorem dataWord_replay_transferEvents (b : Board) (t : LutPair) (i : Byte) (v : Word) :
    dataWord b.cfg.pins (replay v (transferEvents b.cfg t i)) = entryWord b.cfg t i := by
  obtain ⟨⟨-, hwr, -⟩, -⟩ := controlLines_distinct b.nodup
  rw [replay_transferEvents, dataWord_withLine hwr]
  exact dataWord_applyMasks_of_encodes (dataLines_nodup b.nodup) (b.entry_encodes t i) v

/-- A transfer leaves DC alone. -/
theorem levelOf_replay_transferEvents_dc (b : Board) (t : LutPair) (i : Byte) (v : Word) :
    levelOf (replay v (transferEvents b.cfg t i)) b.cfg.pins.dc = levelOf v b.cfg.pins.dc := by
  obtain ⟨⟨hd, -⟩, hw, -⟩ := controlLines_distinct b.nodup
  exact levelOf_replay_of_leavesLine (transferEvents_leaveLine b t i hd hw) v

/-- An event that does not raise WR latches nothing of its own. -/
theorem latched_cons_of_not_rise (pins : Pins) (v : Word) (e : Event) (es : List Event)
    (h : (levelOf (outAfter v e) pins.wr && !levelOf v pins.wr) = false) :
    latched pins v (e :: es) = latched pins (outAfter v e) es := by
  simp only [latched, h]
  rfl

theorem latched_cons_of_leavesLine (pins : Pins) (v : Word) (e : Event) (es : List Event) (h : LeavesLine pins.wr e) :
    latched pins v (e :: es) = latched pins (outAfter v e) es :=
  latched_cons_of_not_rise pins v e es (by rw [h v]; simp)

/-- An event that raises WR latches the lines after it. -/
theorem latched_cons_of_rise (pins : Pins) (v : Word) (e : Event) (es : List Event) (hlow : levelOf v pins.wr = false)
    (hhigh : levelOf (outAfter v e) pins.wr = true) :
    latched pins v (e :: es) = transactionOf pins (outAfter v e) :: latched pins (outAfter v e) es := by
  simp only [latched, hlow, hhigh]
  rfl

/-- From any lines a transfer latches one transaction, at its WR-high write: DC as it was and the entry's word. -/
theorem latched_transferEvents (b : Board) (t : LutPair) (i : Byte) (v : Word) :
    latched b.cfg.pins v (transferEvents b.cfg t i) = [(levelOf v b.cfg.pins.dc, entryWord b.cfg t i)] := by
  obtain ⟨⟨-, hwr, -⟩, -⟩ := controlLines_distinct b.nodup
  have hencodes := b.entry_encodes t i
  have hset : levelOf (lutRead b.cfg t.setTable i) b.cfg.pins.wr = false := by
    obtain ⟨hdata, -⟩ := (encodes_iff _ _ _ _).1 hencodes
    simpa [levelOf_and, levelOf_not, levelOf_zero, levelOf_dataMask _ (dataLines_nodup b.nodup), hwr]
      using congrArg (levelOf · b.cfg.pins.wr) hdata
  have hlow : levelOf (outAfter (outAfter v (.set (lutRead b.cfg t.setTable i))) (.clr (lutRead b.cfg t.clrTable i)))
      b.cfg.pins.wr = false := levelOf_applyMasks_wr_of_encodes hencodes v
  have hend : transactionOf b.cfg.pins (replay v (transferEvents b.cfg t i)) =
      (levelOf v b.cfg.pins.dc, entryWord b.cfg t i) :=
    Prod.ext (levelOf_replay_transferEvents_dc b t i v) (dataWord_replay_transferEvents b t i v)
  rw [transferEvents, latched_cons_of_leavesLine _ _ _ _ (leavesLine_set hset), latched_cons_of_not_rise _ _ _ _ (by rw [hlow]; rfl),
    latched_cons_of_rise _ _ _ _ hlow (by simp [outAfter, levelOf_withLine])]
  exact congrArg (· :: []) hend

/-- Settles O13. -/
theorem transferLatchesItsWordOnce : Obligations.TransferLatchesItsWordOnce := fun s t i => by
  have hn := dataLines_nodup s.cfg.nodup
  have hencodes := s.cfg.entry_encodes t i
  exact ⟨⟨dataWord_applyMasks_of_encodes hn hencodes s.out, levelOf_applyMasks_wr_of_encodes hencodes s.out,
      fun p hd hw => levelOf_applyMasks_other_of_encodes hn hencodes s.out hd hw⟩,
    ⟨levelOf_replay_transferEvents_wr s.config t i s.out, dataWord_replay_transferEvents s.cfg t i s.out⟩,
    transfer_eq_performEvents t i s, latched_transferEvents s.cfg t i s.out⟩

/-! ## Byte transfers -/

/-- A byte transfer leaves DC at its own level. -/
theorem levelOf_replay_byteEvents_dc (b : Board) (t : ByteTx) (v : Word) :
    levelOf (replay v (byteEvents b.cfg t)) b.cfg.pins.dc = t.1 := by
  rw [byteEvents, replay, levelOf_replay_transferEvents_dc]
  simp [outAfter, levelOf_withLine]

/-- A byte transfer leaves its zero-extended byte on the data lines. -/
theorem dataWord_replay_byteEvents (b : Board) (t : ByteTx) (v : Word) :
    dataWord b.cfg.pins (replay v (byteEvents b.cfg t)) = cmdWord t.2 :=
  dataWord_replay_transferEvents b .command t.2 _

/-- From any lines a byte transfer latches its DC level and its byte, and nothing else. -/
theorem latched_byteEvents (b : Board) (t : ByteTx) (v : Word) :
    latched b.cfg.pins v (byteEvents b.cfg t) = [byteTransaction t] := by
  obtain ⟨-, hdcwr, -⟩ := controlLines_distinct b.nodup
  rw [byteEvents, latched_cons_of_leavesLine _ _ _ _ (leavesLine_line _ hdcwr.symm), latched_transferEvents]
  simp [byteTransaction, entryWord, outAfter, levelOf_withLine]

/-- Byte transfers in list order latch their bytes in list order. -/
theorem latched_flatMap_byteEvents (b : Board) (l : List ByteTx) (v : Word) :
    latched b.cfg.pins v (l.flatMap (byteEvents b.cfg)) = l.map byteTransaction := by
  induction l generalizing v with
  | nil => rfl
  | cons t l ih => rw [List.flatMap_cons, latched_append, latched_byteEvents, ih, List.map_cons, List.singleton_append]

/-- Settles O14. -/
theorem byteTransferLatchesItsByte : Obligations.ByteTransferLatchesItsByte := fun s dc b =>
  ⟨byteTransfer_eq_performEvents (dc, b) s, latched_byteEvents s.cfg (dc, b) s.out,
    levelOf_replay_byteEvents_dc s.cfg (dc, b) s.out, levelOf_replay_byteEvents_wr s.config (dc, b) s.out,
    dataWord_replay_byteEvents s.cfg (dc, b) s.out,
    fun _ hd hw hdc => levelOf_replay_of_leavesLine (byteEvents_leaveLine s.cfg (dc, b) hd hw hdc) s.out⟩

/-- Settles O15. The first event writes DC; the three after it are the transfer's, which leave DC alone, so none of them is
a write of DC. -/
theorem dcIsStableDuringAByteTransfer : Obligations.DcIsStableDuringAByteTransfer := fun b v t k hk _ => by
  obtain ⟨⟨hd, -⟩, hw, -⟩ := controlLines_distinct b.nodup
  have hleave := transferEvents_leaveLine b .command t.2 hd hw
  obtain ⟨j, rfl⟩ : ∃ j, k = j + 1 := ⟨k - 1, by omega⟩
  refine ⟨?level, fun e he x hwrite => not_leavesLine_line_self x (hwrite ▸ hleave e he)⟩
  rw [byteEvents, List.take_succ_cons, replay,
    levelOf_replay_of_leavesLine fun e he => hleave e (List.mem_of_mem_take he)]
  simp [outAfter, levelOf_withLine]

end Sys2Proof.Machine
end

section
/-! The statements about whole requests but RENDER: each from its presentation to its end (40_bus_primitive.md R150, R151;
42_addr_window.md R200, R207, R208; 41_panel_init.md R170, R180; 30_encoding.md R113), and the start checks (60_exceptions.md
R254, R255). -/

namespace Sys2Proof.Machine

/-! ## A request, from its presentation to its end

A presented request is turned away, which moves no line and emits nothing, or it begins and runs its body to its end. -/

/-- What a request performs once it has started. -/
def bodyOf : Instr → State → State
  | .begin, s => completeInit (displayOn (sleepExit (sendInitSeq (resetPulse (idleHigh s)))))
  | .setwin _ _ _ _, s => complete (setWindowBody s)
  | .render _ _ _ _ _, s => renderBody s
  | .wrcmd _, s => complete (byteTransfer (false, s.latches.byte) s)
  | .wrdata _, s => complete (byteTransfer (true, s.latches.byte) s)

theorem exec_eq_runRequest (i : Instr) (s : State) : exec i s = runRequest i (bodyOf i) s := by cases i <;> rfl

/-- `s` with the operands of request `i` latched: the state its start checks look at (60_exceptions.md R254). -/
def latching (i : Instr) (s : State) : State := { s with latches := latchRequest i s.descriptor }

/-- Request `i` starts when it is presented at `s` (60_exceptions.md R254). -/
def Begins (i : Instr) (s : State) : Prop := Quiet s ∧ startFault i (latching i s) = none

/-- The state in which request `i`, presented at `s`, is in progress at its first phase. -/
def begun (i : Instr) (s : State) : State := { latching i s with status := s.status.start, seq := firstPhase i }

/-- What turns a request away: a request in progress, which ends in `BUSY_VIOLATION`; a held fault; or a failed check of a
quiet block, whichever the latches (60_exceptions.md R253, R254, R256). -/
inductive TurnedAway (s : State) : State → Prop
  | busy (hbusy : s.status.busy = true) : TurnedAway s (raise .busyViolation s)
  | held (hbusy : s.status.busy = false) (hfault : s.status.fault.isSome = true) : TurnedAway s s
  | rejected (hquiet : Quiet s) (c : FaultCode) (l : Latches) : TurnedAway s (raise c { s with latches := l })

theorem start_cases (i : Instr) (s : State) : (∃ t, start i s = .turnedAway t ∧ TurnedAway s t) ∨
    (Begins i s ∧ start i s = .running (begun i s)) := by
  cases h : start i s with
  | turnedAway t =>
    refine .inl ⟨t, rfl, ?_⟩
    rcases start_turnedAway i s t h with ⟨hbusy, rfl⟩ | ⟨hbusy, hfault, rfl⟩ | ⟨hbusy, hfault, c, -, rfl⟩
    · exact .busy hbusy
    · exact .held hbusy hfault
    · exact .rejected ⟨hbusy, hfault⟩ c _
  | running t =>
    obtain ⟨hbusy, hfault, hcheck, rfl⟩ := (start_running_iff i s t).1 h
    exact .inr ⟨⟨⟨hbusy, hfault⟩, hcheck⟩, rfl⟩

theorem startIllegal_turnedAway (s : State) : TurnedAway s (startIllegal s) := by
  cases hbusy : s.status.busy with
  | true => rw [startIllegal, if_pos hbusy]; exact .busy hbusy
  | false =>
    cases hfault : s.status.fault with
    | some c => simpa [startIllegal, hbusy, hfault] using TurnedAway.held hbusy (by simp [hfault])
    | none => rw [startIllegal_of_quiet s ⟨hbusy, hfault⟩]; exact .rejected ⟨hbusy, hfault⟩ _ _

/-- A request that starts runs its body to its end. -/
theorem exec_of_begins {i : Instr} {s : State} (h : Begins i s) : exec i s = .next (bodyOf i (begun i s)) := by
  obtain ⟨⟨hbusy, hfault⟩, hcheck⟩ := h
  rw [exec_eq_runRequest]
  exact runRequest_of_checks i _ s hbusy hfault hcheck

theorem exec_cases {i : Instr} {s t : State} (h : exec i s = .next t) :
    TurnedAway s t ∨ (Begins i s ∧ t = bodyOf i (begun i s)) := by
  rw [exec_eq_runRequest, runRequest] at h
  rcases start_cases i s with ⟨u, hstart, haway⟩ | ⟨hbegins, hstart⟩
  · rw [hstart] at h
    cases h
    exact .inl haway
  · rw [hstart] at h
    cases h
    exact .inr ⟨hbegins, rfl⟩

/-- A quiet block turns a request away with the first check that fails. -/
theorem exec_of_failedCheck {i : Instr} {s : State} {c : FaultCode} (h : Quiet s)
    (hcheck : startFault i (latching i s) = some c) : exec i s = .next (raise c (latching i s)) := by
  rw [exec_eq_runRequest]
  exact runRequest_of_failedCheck i _ s h.1 h.2 hcheck

/-! ## When a request begins -/

theorem checkBegin_eq_none_iff (s : State) : checkBegin s = none ↔ s.status.initDone = false := by
  cases h : s.status.initDone <;> simp [checkBegin, h]

theorem checkInit_eq_none_iff (s : State) : checkInit s = none ↔ s.status.initDone = true := by
  cases h : s.status.initDone <;> simp [checkInit, h]

theorem begins_begin_iff (s : State) : Begins .begin s ↔ Fresh s :=
  and_congr_right fun _ => checkBegin_eq_none_iff _

theorem begins_wrcmd_iff (b : Byte) (s : State) : Begins (.wrcmd b) s ↔ Ready s :=
  and_congr_right fun _ => checkInit_eq_none_iff _

theorem begins_wrdata_iff (b : Byte) (s : State) : Begins (.wrdata b) s ↔ Ready s :=
  and_congr_right fun _ => checkInit_eq_none_iff _

/-- The window checks of 42_addr_window.md R209, as numbers. -/
theorem windowChecked_iff (l : Latches) : windowChecked l = true ↔ WindowOk l.x0 l.y0 l.x1 l.y1 := by
  simp only [windowChecked, windowDisordered, windowOffPanel, Bool.and_eq_true, Bool.not_eq_true', Bool.or_eq_false_iff,
    decide_eq_false_iff_not, panelW, panelH]
  omega

/-- After BEGIN the window checks are left: the order first, then the panel (60_exceptions.md R255). -/
theorem checkWindow_of_initDone {s : State} (h : s.status.initDone = true) : checkWindow s =
    if windowDisordered s.latches then some .badWindow else if windowOffPanel s.latches then some .outOfRange else none := by
  simp only [checkWindow, checkInit, if_pos h]

theorem checkWindow_of_not_initDone {s : State} (h : s.status.initDone = false) : checkWindow s = some .notInit := by
  simp [checkWindow, checkInit, h]

theorem checkWindow_eq_none_iff (s : State) :
    checkWindow s = none ↔ s.status.initDone = true ∧ windowChecked s.latches = true := by
  cases hinit : s.status.initDone with
  | false => simp [checkWindow_of_not_initDone hinit]
  | true =>
    rw [checkWindow_of_initDone hinit, windowChecked]
    cases windowDisordered s.latches <;> cases windowOffPanel s.latches <;> simp

theorem begins_setwin_iff (x0 y0 x1 y1 : Coord) (s : State) :
    Begins (.setwin x0 y0 x1 y1) s ↔ Ready s ∧ WindowOk x0 y0 x1 y1 := by
  simp only [Begins, startFault, checkWindow_eq_none_iff, windowChecked_iff, and_assoc]
  rfl

theorem begins_render_iff (x0 y0 x1 y1 : Coord) (buf : Word) (s : State) :
    Begins (.render x0 y0 x1 y1 buf) s ↔ Ready s ∧ WindowOk x0 y0 x1 y1 := by
  simp only [Begins, startFault, checkWindow_eq_none_iff, windowChecked_iff, and_assoc]
  rfl

/-! ## The start checks that fail -/

/-- Settles O38. The checks stand in the order of R255: each clause's premises put out those before it, and the answer is
`raise` of a quiet block's first fault. -/
theorem startChecksReportTheFirstFault : Obligations.StartChecksReportTheFirstFault := by
  intro i s hquiet l window answer
  have hanswer {c : FaultCode} (hcheck : startFault i (latching i s) = some c) : answer c := by
    refine (exec_of_failedCheck hquiet hcheck).trans (congrArg _ ?_)
    obtain ⟨hbusy, hfault⟩ := hquiet
    simp [raise, latching, Status.raise_of_quiet c s.status hbusy hfault, hfault, l]
  have hwindow (hw : window = true) (hinit : s.status.initDone = true) : startFault i (latching i s) =
      if windowDisordered l then some .badWindow else if windowOffPanel l then some .outOfRange else none := by
    cases i with
    | setwin | render => exact checkWindow_of_initDone (s := latching _ s) hinit
    | begin | wrcmd | wrdata => exact absurd hw Bool.false_ne_true
  refine ⟨fun hi hinit => ?reinit, fun hi hinit => ?notInit, fun hw hinit hbad => ?badWindow,
    fun hw hinit hx hy hoff => ?outOfRange⟩
  case reinit =>
    subst hi
    exact hanswer (by simp [startFault, checkBegin, latching, hinit])
  case notInit =>
    refine hanswer ?_
    cases i with
    | begin => exact absurd rfl hi
    | setwin | render => exact checkWindow_of_not_initDone (s := latching _ s) hinit
    | wrcmd | wrdata => simp [startFault, checkInit, latching, hinit]
  case badWindow =>
    have hbad : windowDisordered l = true := by simpa [windowDisordered] using hbad
    exact hanswer (by rw [hwindow hw hinit, if_pos hbad])
  case outOfRange =>
    have hordered : ¬windowDisordered l = true := by
      simp only [windowDisordered, Bool.or_eq_true, decide_eq_true_eq]
      omega
    have hoff : windowOffPanel l = true := by simpa [windowOffPanel] using hoff
    exact hanswer (by rw [hwindow hw hinit, if_neg hordered, if_pos hoff])

/-! ## Bodies as lists of events -/

theorem setWindowBody_eq_performEvents (s : State) :
    setWindowBody s = performEvents (windowEvents s.config s.latches) s := by
  simp [setWindowBody, sendAll_eq_performEvents, lineWrite_eq_performEvents, windowEvents]

theorem bodyOf_begin (s : State) : bodyOf .begin s = completeInit (performEvents (beginEvents s.config) s) := by
  rw [bodyOf, idleHigh_resetPulse_eq_performEvents, displayOn_sleepExit_sendInitSeq_eq_performEvents,
    performEvents_config, performEvents_performEvents, ← beginEvents_eq_reset_append]

theorem bodyOf_setwin (x0 y0 x1 y1 : Coord) (s : State) :
    bodyOf (.setwin x0 y0 x1 y1) s = complete (performEvents (windowEvents s.config s.latches) s) := by
  rw [bodyOf, setWindowBody_eq_performEvents]

theorem bodyOf_wrcmd (b : Byte) (s : State) :
    bodyOf (.wrcmd b) s = complete (performEvents (byteEvents s.config (false, s.latches.byte)) s) := by
  rw [bodyOf, byteTransfer_eq_performEvents]

theorem bodyOf_wrdata (b : Byte) (s : State) :
    bodyOf (.wrdata b) s = complete (performEvents (byteEvents s.config (true, s.latches.byte)) s) := by
  rw [bodyOf, byteTransfer_eq_performEvents]

theorem Status.finish_start {t : Status} (h : t.busy = false) : t.start.finish = t := by
  simp [Status.start, Status.finish, ← h]

/-- A request that starts, performs `es` and completes changes the latches, the position, the lines and the trace. -/
theorem complete_performEvents_begun (i : Instr) (s : State) (es : List Event) (h : s.status.busy = false) :
    complete (performEvents es (begun i s)) = { s with
      latches := latchRequest i s.descriptor, seq := .idle, out := replay s.out es, trace := s.trace ++ es } := by
  simp [complete, performEvents, begun, latching, Status.finish_start h]

/-! ## WRCMD and WRDATA -/

/-- The request that sends one byte transfer: WRCMD with DC low, WRDATA with DC high (40_bus_primitive.md R150, R151). -/
def byteRequest : ByteTx → Instr
  | (false, b) => .wrcmd b
  | (true, b) => .wrdata b

theorem exec_byteRequest_of_ready (t : ByteTx) (s : State) (h : Ready s) : exec (byteRequest t) s = .next { s with
    latches := latchRequest (byteRequest t) s.descriptor, seq := .idle, out := replay s.out (byteEvents s.config t),
    trace := s.trace ++ byteEvents s.config t } := by
  rw [← complete_performEvents_begun _ _ _ h.1.1]
  match t with
  | (false, b) => exact (exec_of_begins ((begins_wrcmd_iff b s).2 h)).trans (congrArg _ (bodyOf_wrcmd b _))
  | (true, b) => exact (exec_of_begins ((begins_wrdata_iff b s).2 h)).trans (congrArg _ (bodyOf_wrdata b _))

/-- Settles O16. -/
theorem wrcmdSendsOneCommandByte : Obligations.WrcmdSendsOneCommandByte := fun s b h =>
  ⟨exec_byteRequest_of_ready (false, b) s h, byteEvents_length s.config (false, b), latched_byteEvents s.cfg (false, b) s.out,
    levelOf_replay_byteEvents_dc s.cfg (false, b) s.out, levelOf_replay_byteEvents_wr s.config (false, b) s.out⟩

/-- Settles O17. -/
theorem wrdataSendsOneDataByte : Obligations.WrdataSendsOneDataByte := fun s b h =>
  ⟨exec_byteRequest_of_ready (true, b) s h, byteEvents_length s.config (true, b), latched_byteEvents s.cfg (true, b) s.out,
    levelOf_replay_byteEvents_dc s.cfg (true, b) s.out, levelOf_replay_byteEvents_wr s.config (true, b) s.out⟩

/-- Byte requests one after another emit the events of their transfers one after another, and leave the block ready. -/
theorem execAll_byteRequests (l : List ByteTx) (s : State) (h : Ready s) :
    ∃ t, execAll (l.map byteRequest) s = .next t ∧ Ready t ∧ t.trace = s.trace ++ l.flatMap (byteEvents s.config) := by
  induction l generalizing s with
  | nil => exact ⟨s, rfl, h, by simp⟩
  | cons x l ih =>
    obtain ⟨t, hexec, hready, htrace⟩ := ih { s with
      latches := latchRequest (byteRequest x) s.descriptor, seq := .idle, out := replay s.out (byteEvents s.config x),
      trace := s.trace ++ byteEvents s.config x } h
    refine ⟨t, ?_, hready, htrace.trans ?_⟩
    · simp only [List.map_cons, execAll, exec_byteRequest_of_ready x s h]
      exact hexec
    · simp [State.config]

/-- The requests of a CMD line are those of its group's transfers. -/
theorem lineRequests_cmd (c : Byte) (ps : List Byte) :
    lineRequests (.cmd c.toNat (ps.map BitVec.toNat)) = (groupTxs ⟨c, ps⟩).map byteRequest := by
  simp [lineRequests, groupTxs, commandTx, paramTx, byteRequest]

/-- Settles O47. -/
theorem cmdLineEmitsItsGroup : Obligations.CmdLineEmitsItsGroup := fun s c ps h => by
  rw [lineRequests_cmd]
  exact execAll_byteRequests (groupTxs ⟨c, ps⟩) s h

/-! ## SETWIN -/

theorem length_flatMap_byteEvents (c : Config) (l : List ByteTx) : (l.flatMap (byteEvents c)).length = 4 * l.length := by
  simp [List.length_flatMap, byteEvents_length, Nat.mul_comm]

theorem length_windowEvents (c : Config) (l : Latches) : (windowEvents c l).length = 45 := by
  rw [windowEvents, List.length_append, length_flatMap_byteEvents]
  rfl

theorem exec_setwin_of_ready {x0 y0 x1 y1 : Coord} {s : State} (h : Ready s) (hw : WindowOk x0 y0 x1 y1) :
    exec (.setwin x0 y0 x1 y1) s = .next { s with
      latches := latchRequest (.setwin x0 y0 x1 y1) s.descriptor, seq := .idle
      out := replay s.out (windowEvents s.config (latchRequest (.setwin x0 y0 x1 y1) s.descriptor))
      trace := s.trace ++ windowEvents s.config (latchRequest (.setwin x0 y0 x1 y1) s.descriptor) } := by
  rw [← complete_performEvents_begun _ _ _ h.1.1]
  exact (exec_of_begins ((begins_setwin_iff _ _ _ _ s).2 ⟨h, hw⟩)).trans (congrArg _ (bodyOf_setwin _ _ _ _ _))

/-- The last events of SETWIN are the `OP_RAMWR` transfer and the DC-high write. -/
theorem windowEvents_ends (c : Config) (l : Latches) : ∃ es,
    windowEvents c l = es ++ byteEvents c (commandTx c.opRamwr) ++ [.line c.pins.dc true] :=
  ⟨_, by rw [windowEvents, windowTxs, List.flatMap_append, List.flatMap_singleton]⟩

section

variable (b : Board) (l : Latches) (v : Word)

theorem levelOf_replay_windowEvents_dc : levelOf (replay v (windowEvents b.cfg l)) b.cfg.pins.dc = true := by
  rw [windowEvents, replay_append]
  simp [replay, outAfter, levelOf_withLine]

theorem levelOf_replay_windowEvents_wr : levelOf (replay v (windowEvents b.cfg l)) b.cfg.pins.wr = true := by
  obtain ⟨-, hdcwr, -⟩ := controlLines_distinct b.nodup
  obtain ⟨es, hes⟩ := windowEvents_ends b.cfg l
  rw [hes, replay_append, replay_append]
  exact (leavesLine_line true hdcwr.symm _).trans (levelOf_replay_byteEvents_wr b.cfg _ _)

theorem dataWord_replay_windowEvents :
    dataWord b.cfg.pins (replay v (windowEvents b.cfg l)) = cmdWord b.cfg.opRamwr := by
  obtain ⟨⟨hdc, -⟩, -⟩ := controlLines_distinct b.nodup
  obtain ⟨es, hes⟩ := windowEvents_ends b.cfg l
  rw [hes, replay_append, replay_append]
  exact (dataWord_withLine hdc _ true).trans (dataWord_replay_byteEvents b (commandTx b.cfg.opRamwr) _)

/-- SETWIN latches its eleven transfers: the last DC write raises no WR. -/
theorem latched_windowEvents : latched b.cfg.pins v (windowEvents b.cfg l) = (windowTxs b.cfg l).map byteTransaction := by
  obtain ⟨-, hdcwr, -⟩ := controlLines_distinct b.nodup
  rw [windowEvents, latched_append, latched_flatMap_byteEvents, latched_cons_of_leavesLine _ _ _ _ (leavesLine_line _ hdcwr.symm)]
  exact List.append_nil _

end

/-- Settles O18. -/
theorem setwinSendsItsWindow : Obligations.SetwinSendsItsWindow := fun s _ _ _ _ h hw =>
  ⟨exec_setwin_of_ready h hw, levelOf_replay_windowEvents_dc s.cfg _ s.out, levelOf_replay_windowEvents_wr s.cfg _ s.out,
    dataWord_replay_windowEvents s.cfg _ s.out⟩

/-- Settles O19. -/
theorem setwinLatchesElevenTransactions : Obligations.SetwinLatchesElevenTransactions := fun s _ _ _ _ h hw =>
  ⟨_, _, exec_setwin_of_ready h hw, rfl, length_windowEvents s.config _, latched_windowEvents s.cfg _ s.out⟩

/-- What events do to a line is to leave it alone or to give it a level of their own. -/
theorem levelOf_replay_cases (es : List Event) (p : Line) :
    (∀ v, levelOf (replay v es) p = levelOf v p) ∨ ∃ x, ∀ v, levelOf (replay v es) p = x := by
  induction es with
  | nil => exact .inl fun _ => rfl
  | cons e es ih =>
    rcases ih with ih | ⟨x, ih⟩
    case inr => exact .inr ⟨x, fun v => ih (outAfter v e)⟩
    case inl =>
      simp only [replay, ih]
      cases e with
      | set m => cases hm : levelOf m p <;> simp [outAfter, levelOf_or, hm]
      | clr m => cases hm : levelOf m p <;> simp [outAfter, levelOf_and, levelOf_not, hm]
      | line q x => by_cases hq : p = q <;> simp [outAfter, levelOf_withLine, hq]
      | delay n => exact .inl fun _ => rfl

/-- So events performed a second time change no line. -/
theorem replay_replay (v : Word) (es : List Event) : replay (replay v es) es = replay v es := by
  refine word_ext_level fun p => ?_
  rcases levelOf_replay_cases es p with h | ⟨x, h⟩
  · exact h _
  · rw [h, h]

/-- Settles O20. The second SETWIN latches the same operands, so it performs the same events, from the lines the first one
left. -/
theorem setwinTwiceEmitsTheSame : Obligations.SetwinTwiceEmitsTheSame := fun s x0 y0 x1 y1 h hw => by
  have hsecond := exec_setwin_of_ready (s := { s with
      latches := latchRequest (.setwin x0 y0 x1 y1) s.descriptor, seq := .idle
      out := replay s.out (windowEvents s.config (latchRequest (.setwin x0 y0 x1 y1) s.descriptor))
      trace := s.trace ++ windowEvents s.config (latchRequest (.setwin x0 y0 x1 y1) s.descriptor) }) h hw
  refine ⟨_, _, _, exec_setwin_of_ready h hw, hsecond, rfl, rfl, ?latched, replay_replay s.out _⟩
  exact (latched_windowEvents s.cfg _ _).trans (latched_windowEvents s.cfg _ _).symm

/-! ## BEGIN -/

/-- Settles O21. -/
theorem beginRunsTheInitialization : Obligations.BeginRunsTheInitialization := fun s h => by
  refine (exec_begin_of_fresh s h).trans ?_
  obtain ⟨⟨hbusy, -⟩, -⟩ := h
  simp [completeInit, performEvents, Status.finishInit, Status.start, ← hbusy]

/-- The transfers of `INIT_SEQ` are one for each group's command and one for each parameter. -/
theorem length_initTxs (c : Config) : (initTxs c).length =
    (initGroups c.initSeq).length + ((initGroups c.initSeq).map fun g => g.params.length).sum := by
  simp only [initTxs]
  induction initGroups c.initSeq with
  | nil => rfl
  | cons g gs ih =>
    simp only [List.flatMap_cons, List.length_append, List.length_cons, List.map_cons, List.sum_cons, ih, groupTxs,
      List.length_map]
    omega

theorem length_beginEvents (c : Config) : (beginEvents c).length =
    16 + 4 * ((initGroups c.initSeq).length + ((initGroups c.initSeq).map fun g => g.params.length).sum) := by
  simp only [beginEvents, List.length_append, length_flatMap_byteEvents, length_initTxs, byteEvents_length]
  simp only [resetEvents, List.length_cons, List.length_nil]
  omega

/-- The events of `INIT_SEQ`, group by group (41_panel_init.md R175, R180). -/
theorem flatMap_byteEvents_initTxs (c : Config) : (initTxs c).flatMap (byteEvents c) =
    (initGroups c.initSeq).flatMap fun g =>
      byteEvents c (false, g.command) ++ g.params.flatMap fun p => byteEvents c (true, p) := by
  simp [initTxs, List.flatMap_assoc, groupTxs, commandTx, paramTx, List.flatMap_map]

theorem map_byteTransaction_initTxs (c : Config) : (initTxs c).map byteTransaction =
    (initGroups c.initSeq).flatMap fun g => (false, cmdWord g.command) :: g.params.map fun p => (true, cmdWord p) := by
  simp [initTxs, List.map_flatMap, groupTxs, commandTx, paramTx, byteTransaction, Function.comp_def]

/-- The reset events raise WR once, where it started low: the stray transaction of 41_panel_init.md R181 (a). -/
theorem latched_resetEvents (b : Board) (v : Word) : latched b.cfg.pins v (resetEvents b.cfg) =
    if levelOf v b.cfg.pins.wr then [] else [(levelOf v b.cfg.pins.dc, dataWord b.cfg.pins v)] := by
  obtain ⟨⟨-, hwr, -⟩, hdcwr, -, -, -, hwrrst, -⟩ := controlLines_distinct b.nodup
  have hrest : ∀ w, latched b.cfg.pins w [.line b.cfg.pins.rst true, .delay tRstPre, .line b.cfg.pins.rst false, .delay tRstLow,
      .line b.cfg.pins.rst true, .delay tRstPost] = [] := fun w => by
    simp only [latched_cons_of_leavesLine _ _ _ _ (leavesLine_line _ hwrrst),
      latched_cons_of_leavesLine _ _ _ _ (leavesLine_delay _)]
    rfl
  rw [resetEvents]
  cases hlevel : levelOf v b.cfg.pins.wr with
  | true => rw [latched_cons_of_not_rise _ _ _ _ (by simp [hlevel]), hrest]; rfl
  | false =>
    rw [latched_cons_of_rise _ _ _ _ hlevel (by simp [outAfter, levelOf_withLine]), hrest]
    simp [transactionOf, outAfter, levelOf_withLine, hdcwr, dataWord_withLine hwr]

theorem latched_beginEvents (b : Board) (v : Word) : latched b.cfg.pins v (beginEvents b.cfg) =
    (if levelOf v b.cfg.pins.wr then [] else [(levelOf v b.cfg.pins.dc, dataWord b.cfg.pins v)])
      ++ (initTxs b.cfg).map byteTransaction ++ [(false, cmdWord b.cfg.opSlpout), (false, cmdWord b.cfg.opDispon)] := by
  simp only [beginEvents, latched_append, latched_resetEvents, latched_flatMap_byteEvents, latched_byteEvents, latched_delay]
  simp [byteTransaction, commandTx]

/-- Settles O22. -/
theorem beginTraceAndTransactions : Obligations.BeginTraceAndTransactions := fun s h => by
  have hes : beginEvents s.config = [.line s.config.pins.wr true, .line s.config.pins.rst true, .delay 5,
        .line s.config.pins.rst false, .delay 20, .line s.config.pins.rst true, .delay 150]
      ++ (initGroups s.config.initSeq).flatMap (fun g =>
        byteEvents s.config (false, g.command) ++ g.params.flatMap fun p => byteEvents s.config (true, p))
      ++ byteEvents s.config (false, s.config.opSlpout) ++ [.delay 120] ++ byteEvents s.config (false, s.config.opDispon) := by
    rw [← flatMap_byteEvents_initTxs]
    rfl
  have hlatched := latched_beginEvents s.cfg s.out
  rw [map_byteTransaction_initTxs] at hlatched
  intro c gs es
  rw [show es = beginEvents s.config from hes.symm]
  exact ⟨_, exec_begin_of_fresh s h, rfl, length_beginEvents s.config, hlatched⟩

end Sys2Proof.Machine
end

section
/-! The statements about RENDER: its whole next state, what it latches, where it stops (43_pixel_stream.md R220 to R229), and
where its pixels belong (R222, R224). -/

namespace Sys2Proof.Machine

/-! ## The pixel count and the places of the pixels -/

section

variable {l : Latches}

theorem windowWidth_bounds (h : WindowOk l.x0 l.y0 l.x1 l.y1) : 1 ≤ windowWidth l ∧ windowWidth l ≤ 480 := by
  unfold windowWidth
  omega

theorem windowHeight_bounds (h : WindowOk l.x0 l.y0 l.x1 l.y1) : 1 ≤ windowHeight l ∧ windowHeight l ≤ 320 := by
  unfold windowHeight
  omega

end

/-- Settles O28. -/
theorem pixelCountIsExactAndBounded : Obligations.PixelCountIsExactAndBounded := fun l h => by
  obtain ⟨hw, hw'⟩ := windowWidth_bounds h
  obtain ⟨hh, hh'⟩ := windowHeight_bounds h
  exact ⟨rfl, hw, hw', hh, hh', Nat.mul_pos hw hh, Nat.mul_le_mul hw' hh'⟩

/-- Settles O29. With `W` columns, pixel `n` stands at column `n % W` and row `n / W` of the window, and place `(x, y)` is that
of pixel `x + W y` alone. -/
theorem pixelPlacesFillTheWindow : Obligations.PixelPlacesFillTheWindow := fun l h => by
  obtain ⟨hwpos, -⟩ := windowWidth_bounds h
  have hwidth : windowWidth l = l.x1.toNat - l.x0.toNat + 1 := rfl
  have hheight : windowHeight l = l.y1.toNat - l.y0.toNat + 1 := rfl
  simp only [pixelColumn, pixelRow, pixelCount]
  refine ⟨fun n hn => ?inside, fun x y hx hx' hy hy' => ?filled⟩
  case inside =>
    have hcolumn : n % windowWidth l < windowWidth l := Nat.mod_lt n hwpos
    have hrow : n / windowWidth l < windowHeight l := Nat.div_lt_of_lt_mul hn
    generalize n % windowWidth l = x at hcolumn ⊢
    generalize n / windowWidth l = y at hrow ⊢
    omega
  case filled =>
    have hcolumn : x - l.x0.toNat < windowWidth l := by omega
    have hrow : y - l.y0.toNat < windowHeight l := by omega
    refine ⟨x - l.x0.toNat + windowWidth l * (y - l.y0.toNat), ?below, ?column, ?row, fun m _ hm hm' => ?unique⟩
    case below =>
      calc x - l.x0.toNat + windowWidth l * (y - l.y0.toNat)
        _ < windowWidth l + windowWidth l * (y - l.y0.toNat) := Nat.add_lt_add_right hcolumn _
        _ = windowWidth l * (y - l.y0.toNat + 1) := by rw [Nat.mul_succ, Nat.add_comm]
        _ ≤ windowWidth l * windowHeight l := Nat.mul_le_mul_left _ hrow
    case column => rw [Nat.add_mul_mod_self_left, Nat.mod_eq_of_lt hcolumn]; omega
    case row => rw [Nat.add_mul_div_left _ _ hwpos, Nat.div_eq_of_lt hcolumn]; omega
    case unique =>
      rw [← Nat.mod_add_div m (windowWidth l), show m % windowWidth l = x - l.x0.toNat by omega,
        show m / windowWidth l = y - l.y0.toNat by omega]

/-! ## Reading a pixel -/

theorem readPixel_eq_some_iff (m : Memory) (l : Latches) (n : Nat) (b : Byte) :
    readPixel m l n = some b ↔ l.buf.toNat + n < 2 ^ 32 ∧ m.read (l.buf.toNat + n) = some b := by
  unfold readPixel pixelAddress
  split
  case isTrue h => exact ⟨nofun, fun ⟨h', _⟩ => by omega⟩
  case isFalse h => exact ⟨fun hread => ⟨by omega, hread⟩, fun ⟨_, hread⟩ => hread⟩

theorem readPixel_eq_none_iff (m : Memory) (l : Latches) (n : Nat) :
    readPixel m l n = none ↔ 2 ^ 32 ≤ l.buf.toNat + n ∨ m.read (l.buf.toNat + n) = none := by
  unfold readPixel pixelAddress
  split
  case isTrue h => exact ⟨fun _ => .inl (by omega), fun _ => rfl⟩
  case isFalse h => exact ⟨.inr, fun h' => h'.resolve_left (by omega)⟩

/-! ## The stream, byte by byte -/

/-- The state after pixel index `i` was read and sent (43_pixel_stream.md R220). -/
def streamPixel (i : Byte) (s : State) : State :=
  countPixel (transfer .colour i (holdPixel i (goto (.rRd s.sent) s)))

/-- The state after the pixel indices `is` were read and sent, one after another. -/
def streamPixels (is : List Byte) (s : State) : State := is.foldl (fun s i => streamPixel i s) s

/-- What a stream of pixels changes beside the position: the lines, the trace, the count and the index held. -/
theorem goto_streamPixels (q : Seq) (is : List Byte) (s : State) : goto q (streamPixels is s) =
    { performEvents (pixelEvents s.config is) s with
      seq := q, sent := s.sent + is.length, pixel := is.getLast?.getD s.pixel } := by
  induction is generalizing s with
  | nil => simp [streamPixels, goto, pixelEvents, performEvents_nil]
  | cons i is ih =>
    refine (ih (streamPixel i s)).trans ?_
    simp [streamPixel, transfer_eq_performEvents, performEvents, pixelEvents, replay_append, countPixel, holdPixel, goto,
      State.config, List.getLast?_cons, Nat.add_assoc, Nat.add_comm]

theorem streamPixels_fb (is : List Byte) (s : State) : (streamPixels is s).fb = s.fb := by
  have h := congrArg State.fb (goto_streamPixels .idle is s)
  exact h

theorem streamPixels_latches (is : List Byte) (s : State) : (streamPixels is s).latches = s.latches := by
  have h := congrArg State.latches (goto_streamPixels .idle is s)
  exact h

theorem streamPixels_sent (is : List Byte) (s : State) : (streamPixels is s).sent = s.sent + is.length := by
  have h := congrArg State.sent (goto_streamPixels .idle is s)
  exact h

/-- A loop whose first pixels are readable sends them and goes on with the rest. -/
theorem sendPixels_of_readable (is : List Byte) (k : Nat) (s : State)
    (h : ∀ (j : Nat) (hj : j < is.length), readPixel s.fb s.latches (s.sent + j) = some is[j]) :
    sendPixels (is.length + k) s = sendPixels k (streamPixels is s) := by
  induction is generalizing s with
  | nil => simp [streamPixels]
  | cons i is ih =>
    have hrest : ∀ (j : Nat) (hj : j < is.length),
        readPixel (streamPixel i s).fb (streamPixel i s).latches ((streamPixel i s).sent + j) = some is[j] := fun j hj => by
      have := h (j + 1) (by simpa using hj)
      simpa [streamPixel, Nat.add_comm, Nat.add_left_comm] using this
    have hfirst := sendPixel_of_read s i (h 0 (by simp))
    rw [List.length_cons, Nat.succ_add]
    simp only [sendPixels, hfirst]
    exact ih _ hrest

/-- Where the next pixel is unreadable the loop stops there with `BUF_OOB` (43_pixel_stream.md R229). -/
theorem sendPixels_of_unreadable (k : Nat) (s : State) (h : readPixel s.fb s.latches s.sent = none) :
    sendPixels (k + 1) s = .error (raise .bufOob (goto (.rRd s.sent) s)) := by
  simp only [sendPixels, sendPixel_of_unreadable s h]

/-- The state in which the stream begins: SETWIN's events performed, `N` pixels owed (43_pixel_stream.md R220). -/
def streamOpened (s : State) : State := openStream (performEvents (windowEvents s.config s.latches) s)

theorem renderBody_eq_closeStream (s : State) :
    renderBody s = closeStream (sendPixels (pixelCount s.latches) (streamOpened s)) := by
  rw [renderBody, setWindowBody_eq_performEvents]
  rfl

theorem renderBody_of_readable (is : List Byte) (s : State) (hlen : is.length = pixelCount s.latches)
    (h : ∀ (j : Nat) (hj : j < is.length), readPixel s.fb s.latches j = some is[j]) :
    renderBody s = complete (streamPixels is (streamOpened s)) := by
  have hloop := sendPixels_of_readable is 0 (streamOpened s) (by simpa [streamOpened, performEvents] using h)
  rw [Nat.add_zero, hlen] at hloop
  rw [renderBody_eq_closeStream, hloop]
  rfl

theorem renderBody_of_unreadable (is : List Byte) (s : State) (hlen : is.length < pixelCount s.latches)
    (h : ∀ (j : Nat) (hj : j < is.length), readPixel s.fb s.latches j = some is[j])
    (hstop : readPixel s.fb s.latches is.length = none) :
    renderBody s = raise .bufOob (goto (.rRd is.length) (streamPixels is (streamOpened s))) := by
  obtain ⟨k, hk⟩ : ∃ k, pixelCount s.latches = is.length + (k + 1) := ⟨pixelCount s.latches - is.length - 1, by omega⟩
  have hsent : (streamPixels is (streamOpened s)).sent = is.length := by simp [streamPixels_sent, streamOpened]
  have hnext : readPixel (streamPixels is (streamOpened s)).fb (streamPixels is (streamOpened s)).latches
      (streamPixels is (streamOpened s)).sent = none := by
    rw [hsent, streamPixels_fb, streamPixels_latches]
    exact hstop
  have hloop := sendPixels_of_readable is (k + 1) (streamOpened s) (by simpa [streamOpened, performEvents] using h)
  rw [sendPixels_of_unreadable k _ hnext, ← hk, hsent] at hloop
  rw [renderBody_eq_closeStream, hloop]
  rfl

/-! ## The events of a stream -/

theorem length_pixelEvents (c : Config) (is : List Byte) : (pixelEvents c is).length = 3 * is.length := by
  simp [pixelEvents, List.length_flatMap, transferEvents_length, Nat.mul_comm]

section

variable (b : Board)

theorem pixelEvents_cons (i : Byte) (is : List Byte) :
    pixelEvents b.cfg (i :: is) = transferEvents b.cfg .colour i ++ pixelEvents b.cfg is := by
  simp [pixelEvents]

theorem levelOf_replay_pixelEvents_dc (is : List Byte) (v : Word) :
    levelOf (replay v (pixelEvents b.cfg is)) b.cfg.pins.dc = levelOf v b.cfg.pins.dc := by
  induction is generalizing v with
  | nil => rfl
  | cons i is ih => rw [pixelEvents_cons, replay_append, ih, levelOf_replay_transferEvents_dc]

/-- A stream keeps WR high: every transfer ends so. -/
theorem levelOf_replay_pixelEvents_wr (is : List Byte) (v : Word) (h : levelOf v b.cfg.pins.wr = true) :
    levelOf (replay v (pixelEvents b.cfg is)) b.cfg.pins.wr = true := by
  induction is generalizing v with
  | nil => exact h
  | cons i is ih =>
    rw [pixelEvents_cons, replay_append]
    exact ih _ (levelOf_replay_transferEvents_wr b.cfg .colour i v)

/-- A stream leaves the last pixel's colour on the data lines. -/
theorem dataWord_replay_pixelEvents (is : List Byte) (v : Word) : dataWord b.cfg.pins (replay v (pixelEvents b.cfg is)) =
    (is.getLast?.map (paletteOf b.cfg)).getD (dataWord b.cfg.pins v) := by
  induction is generalizing v with
  | nil => rfl
  | cons i is ih =>
    rw [pixelEvents_cons, replay_append, ih, dataWord_replay_transferEvents, List.getLast?_cons]
    cases is.getLast? <;> rfl

theorem latched_pixelEvents (is : List Byte) (v : Word) : latched b.cfg.pins v (pixelEvents b.cfg is) =
    is.map fun i => (levelOf v b.cfg.pins.dc, paletteOf b.cfg i) := by
  induction is generalizing v with
  | nil => rfl
  | cons i is ih =>
    rw [pixelEvents_cons, latched_append, latched_transferEvents, ih, levelOf_replay_transferEvents_dc]
    rfl

/-- After SETWIN, which leaves DC high, a stream latches its pixels as data. -/
theorem latched_windowEvents_pixelEvents (l : Latches) (is : List Byte) (v : Word) :
    latched b.cfg.pins v (windowEvents b.cfg l ++ pixelEvents b.cfg is) =
      latched b.cfg.pins v (windowEvents b.cfg l) ++ is.map fun i => (true, paletteOf b.cfg i) := by
  rw [latched_append, latched_pixelEvents, levelOf_replay_windowEvents_dc]

theorem length_latched_windowEvents (l : Latches) (v : Word) :
    (latched b.cfg.pins v (windowEvents b.cfg l)).length = 11 := by
  rw [latched_windowEvents]
  rfl

end

/-! ## RENDER -/

/-- RENDER of a readable buffer from a ready block, its whole next state. -/
theorem exec_render_of_readable {x0 y0 x1 y1 : Coord} {buf : Word} {bytes : List Byte} {s : State} (h : Ready s)
    (hw : WindowOk x0 y0 x1 y1) (hlen : bytes.length = (x1.toNat - x0.toNat + 1) * (y1.toNat - y0.toNat + 1))
    (htop : buf.toNat + bytes.length ≤ 2 ^ 32)
    (hread : ∀ (k : Nat) (hk : k < bytes.length), s.fb.read (buf.toNat + k) = some bytes[k]) :
    exec (.render x0 y0 x1 y1 buf) s = .next { s with
      latches := latchRequest (.render x0 y0 x1 y1 buf) s.descriptor, seq := .idle, total := bytes.length
      sent := bytes.length, pixel := bytes.getLast?.getD s.pixel
      out := replay s.out (windowEvents s.config (latchRequest (.render x0 y0 x1 y1 buf) s.descriptor)
        ++ pixelEvents s.config bytes)
      trace := s.trace ++ (windowEvents s.config (latchRequest (.render x0 y0 x1 y1 buf) s.descriptor)
        ++ pixelEvents s.config bytes) } := by
  have hbody := renderBody_of_readable bytes (begun (.render x0 y0 x1 y1 buf) s) hlen fun k hk =>
    (readPixel_eq_some_iff _ _ k _).2 ⟨Nat.lt_of_lt_of_le (Nat.add_lt_add_left hk _) htop, hread k hk⟩
  refine (exec_of_begins ((begins_render_iff _ _ _ _ _ s).2 ⟨h, hw⟩)).trans (congrArg _ (hbody.trans ?_))
  refine (congrArg complete (goto_streamPixels .idle bytes (streamOpened (begun (.render x0 y0 x1 y1 buf) s)))).trans ?_
  have hcount : pixelCount (latchRequest (.render x0 y0 x1 y1 buf) s.descriptor) = bytes.length := hlen.symm
  simp [complete, streamOpened, openStream, performEvents, begun, latching, hcount, Status.finish_start h.1.1, replay_append,
    State.config]

/-- RENDER whose next pixel after `bytes` is unreadable, from a ready block, its whole next state (43_pixel_stream.md R229). -/
theorem exec_render_of_unreadable {x0 y0 x1 y1 : Coord} {buf : Word} {bytes : List Byte} {s : State} (h : Ready s)
    (hw : WindowOk x0 y0 x1 y1) (hlen : bytes.length < (x1.toNat - x0.toNat + 1) * (y1.toNat - y0.toNat + 1))
    (hread : ∀ (k : Nat) (hk : k < bytes.length), buf.toNat + k < 2 ^ 32 ∧ s.fb.read (buf.toNat + k) = some bytes[k])
    (hstop : 2 ^ 32 ≤ buf.toNat + bytes.length ∨ s.fb.read (buf.toNat + bytes.length) = none) :
    exec (.render x0 y0 x1 y1 buf) s = .next { s with
      latches := latchRequest (.render x0 y0 x1 y1 buf) s.descriptor, seq := .faulted, faultAt := some (.rRd bytes.length)
      status := { s.status with fault := some .bufOob }
      total := (x1.toNat - x0.toNat + 1) * (y1.toNat - y0.toNat + 1), sent := bytes.length
      pixel := bytes.getLast?.getD s.pixel
      out := replay s.out (windowEvents s.config (latchRequest (.render x0 y0 x1 y1 buf) s.descriptor)
        ++ pixelEvents s.config bytes)
      trace := s.trace ++ (windowEvents s.config (latchRequest (.render x0 y0 x1 y1 buf) s.descriptor)
        ++ pixelEvents s.config bytes) } := by
  have hbody := renderBody_of_unreadable bytes (begun (.render x0 y0 x1 y1 buf) s) hlen
    (fun k hk => (readPixel_eq_some_iff _ _ k _).2 (hread k hk)) ((readPixel_eq_none_iff _ _ _).2 hstop)
  refine (exec_of_begins ((begins_render_iff _ _ _ _ _ s).2 ⟨h, hw⟩)).trans (congrArg _ (hbody.trans ?_))
  rw [goto_streamPixels]
  obtain ⟨⟨hbusy, hfault⟩, -⟩ := h
  have hcount : pixelCount (latchRequest (.render x0 y0 x1 y1 buf) s.descriptor) =
    (x1.toNat - x0.toNat + 1) * (y1.toNat - y0.toNat + 1) := rfl
  simp [raise, streamOpened, openStream, performEvents, begun, latching, hcount, Status.raise, Status.start, hbusy, hfault,
    replay_append, State.config]

/-- Settles O24. -/
theorem renderStreamsItsBuffer : Obligations.RenderStreamsItsBuffer := fun _ _ _ _ _ _ _ h hw hlen htop hread =>
  exec_render_of_readable h hw hlen htop hread

/-- Settles O25. RENDER latches the corners SETWIN latches, so the events before its pixels are SETWIN's. -/
theorem renderLatchesWindowThenPixels : Obligations.RenderLatchesWindowThenPixels := by
  intro s x0 y0 x1 y1 buf bytes h hw hlen htop hread pins
  have hlatched := latched_windowEvents_pixelEvents s.cfg (latchRequest (.render x0 y0 x1 y1 buf) s.descriptor) bytes s.out
  refine ⟨_, _, _, _, exec_render_of_readable h hw hlen htop hread, exec_setwin_of_ready h hw, rfl, rfl, ?length, hlatched,
    ?latchedLength, ?dc, ?wr⟩
  case length => rw [List.length_append, length_windowEvents, length_pixelEvents]
  case latchedLength =>
    refine (congrArg List.length hlatched).trans ?_
    rw [List.length_append, length_latched_windowEvents, List.length_map]
  case dc =>
    simp only [replay_append]
    exact (levelOf_replay_pixelEvents_dc s.cfg bytes _).trans (levelOf_replay_windowEvents_dc s.cfg _ _)
  case wr =>
    simp only [replay_append]
    exact levelOf_replay_pixelEvents_wr s.cfg bytes _ (levelOf_replay_windowEvents_wr s.cfg _ _)

/-- Settles O26. The next state is known whole (`exec_render_of_unreadable`); the levels and the transactions are those of
its event list. -/
theorem renderFaultsAtTheFirstUnreadablePixel : Obligations.RenderFaultsAtTheFirstUnreadablePixel := by
  intro s x0 y0 x1 y1 buf bytes h hw hlen hread hstop c n ws es
  refine ⟨_, exec_render_of_unreadable h hw hlen hread hstop, rfl, ?length, length_latched_windowEvents s.cfg _ s.out,
    latched_windowEvents_pixelEvents s.cfg _ bytes s.out, rfl, rfl, rfl, rfl, ?wr, ?dc, ?word, rfl, rfl⟩
  case length => exact List.length_append.trans (congrArg₂ _ (length_windowEvents c _) (length_pixelEvents c bytes))
  case wr =>
    simp only [replay_append]
    exact levelOf_replay_pixelEvents_wr s.cfg bytes _ (levelOf_replay_windowEvents_wr s.cfg _ _)
  case dc =>
    simp only [replay_append]
    exact (levelOf_replay_pixelEvents_dc s.cfg bytes _).trans (levelOf_replay_windowEvents_dc s.cfg _ _)
  case word =>
    simp only [replay_append]
    refine (dataWord_replay_pixelEvents s.cfg bytes _).trans ?_
    cases bytes.getLast? with
    | none => exact dataWord_replay_windowEvents s.cfg _ s.out
    | some i => rfl

end Sys2Proof.Machine
end

section
/-! The statements about what requests leave alone and what they do not depend on (10_state.md R31, R35, R42; 20_memory.md R70;
40_bus_primitive.md R142; 43_pixel_stream.md R224, R230 (g)), and the bound on their events (60_exceptions.md R264). -/

namespace Sys2Proof.Machine

/-! ## What the block can change

Whatever the block does, it performs events and writes the registers of its own: STATUS, the position, the fault's place, the
latches, the pixel counters and the pixel index. -/

/-- `t` is `s` after the events `es`, with the block's own registers at any values. -/
def Emits (es : List Event) (s t : State) : Prop :=
  ∃ status seq faultAt latches total sent pixel, t = { performEvents es s with
    status := status, seq := seq, faultAt := faultAt, latches := latches, total := total, sent := sent, pixel := pixel }

namespace Emits

variable {es : List Event} {s t : State}

/-! ### What is kept -/

theorem out : Emits es s t → t.out = replay s.out es
  | ⟨_, _, _, _, _, _, _, h⟩ => h ▸ rfl

theorem trace : Emits es s t → t.trace = s.trace ++ es
  | ⟨_, _, _, _, _, _, _, h⟩ => h ▸ rfl

theorem cfg : Emits es s t → t.cfg = s.cfg
  | ⟨_, _, _, _, _, _, _, h⟩ => h ▸ rfl

theorem startOut : Emits es s t → t.startOut = s.startOut
  | ⟨_, _, _, _, _, _, _, h⟩ => h ▸ rfl

theorem others : Emits es s t → t.others = s.others
  | ⟨_, _, _, _, _, _, _, h⟩ => h ▸ rfl

theorem fb : Emits es s t → t.fb = s.fb
  | ⟨_, _, _, _, _, _, _, h⟩ => h ▸ rfl

theorem schedule : Emits es s t → t.schedule = s.schedule
  | ⟨_, _, _, _, _, _, _, h⟩ => h ▸ rfl

/-! ### The operations -/

/-- Whatever the block does to its own registers emits nothing. -/
theorem nil (s : State) (status : Status) (seq : Seq) (faultAt : Option Seq) (latches : Latches) (total sent : Nat)
    (pixel : Byte) : Emits [] s { s with
      status := status, seq := seq, faultAt := faultAt, latches := latches, total := total, sent := sent, pixel := pixel } :=
  ⟨status, seq, faultAt, latches, total, sent, pixel, by rw [performEvents_nil]⟩

theorem refl (s : State) : Emits [] s s := nil s _ _ _ _ _ _ _

theorem performEvents (es : List Event) (s : State) : Emits es s (performEvents es s) := ⟨_, _, _, _, _, _, _, rfl⟩

theorem trans {es' : List Event} {u : State} (h : Emits es s t) (h' : Emits es' t u) : Emits (es ++ es') s u := by
  obtain ⟨_, _, _, _, _, _, _, rfl⟩ := h
  obtain ⟨status, seq, faultAt, latches, total, sent, pixel, rfl⟩ := h'
  exact ⟨status, seq, faultAt, latches, total, sent, pixel, by simp [Machine.performEvents, replay_append]⟩

theorem own {u : State} (h : Emits es s t) (h' : Emits [] t u) : Emits es s u := by
  simpa using h.trans h'

theorem raise (c : FaultCode) (s : State) : Emits [] s (raise c s) := nil s _ _ _ _ _ _ _
theorem complete (s : State) : Emits [] s (complete s) := nil s _ _ _ _ _ _ _
theorem completeInit (s : State) : Emits [] s (completeInit s) := nil s _ _ _ _ _ _ _
theorem goto (q : Seq) (s : State) : Emits [] s (goto q s) := nil s _ _ _ _ _ _ _
theorem openStream (s : State) : Emits [] s (openStream s) := nil s _ _ _ _ _ _ _
theorem begun (i : Instr) (s : State) : Emits [] s (begun i s) := nil s _ _ _ _ _ _ _

theorem turnedAway (h : TurnedAway s t) : Emits [] s t := by
  cases h with
  | busy => exact raise _ s
  | held => exact refl s
  | rejected _ c l => exact nil s _ _ _ _ _ _ _

theorem streamPixels (is : List Byte) (s : State) : Emits (pixelEvents s.config is) s (streamPixels is s) :=
  ⟨_, (Machine.streamPixels is s).seq, _, _, _, _, _, goto_streamPixels (Machine.streamPixels is s).seq is s⟩

end Emits

/-! ## The events of each request -/

/-- The pixels a stream of `k` reads, up to the first that is unreadable. -/
theorem exists_readable_prefix (m : Memory) (l : Latches) (k : Nat) : ∃ is : List Byte, is.length ≤ k ∧
    (∀ (j : Nat) (hj : j < is.length), readPixel m l j = some is[j]) ∧
    (is.length < k → readPixel m l is.length = none) := by
  induction k with
  | zero => exact ⟨[], Nat.le_refl 0, nofun, nofun⟩
  | succ k ih =>
    obtain ⟨is, hlen, hread, hstop⟩ := ih
    by_cases hk : is.length < k
    · exact ⟨is, by omega, hread, fun _ => hstop hk⟩
    · have hk : is.length = k := by omega
      cases hnext : readPixel m l k with
      | none => exact ⟨is, by omega, hread, fun _ => hk ▸ hnext⟩
      | some i =>
        refine ⟨is ++ [i], by simp [hk], fun j hj => ?_, fun h => by simp [hk] at h⟩
        by_cases hjk : j < is.length
        · rw [List.getElem_append_left hjk]
          exact hread j hjk
        · obtain rfl : j = is.length := by simp only [List.length_append, List.length_singleton] at hj; omega
          simp [hk, hnext]

/-- RENDER performs SETWIN's events and those of at most `N` pixels, however it ends. -/
theorem renderBody_emits (s : State) : ∃ is : List Byte, is.length ≤ pixelCount s.latches ∧
    Emits (windowEvents s.config s.latches ++ pixelEvents s.config is) s (renderBody s) := by
  obtain ⟨is, hlen, hread, hstop⟩ := exists_readable_prefix s.fb s.latches (pixelCount s.latches)
  have hstream : Emits (windowEvents s.config s.latches ++ pixelEvents s.config is) s (streamPixels is (streamOpened s)) :=
    ((Emits.performEvents _ s).own (Emits.openStream _)).trans (Emits.streamPixels is (streamOpened s))
  refine ⟨is, hlen, ?_⟩
  by_cases hfull : is.length = pixelCount s.latches
  · rw [renderBody_of_readable is s hfull hread]
    exact hstream.own (Emits.complete _)
  · have hshort : is.length < pixelCount s.latches := by omega
    rw [renderBody_of_unreadable is s hshort hread (hstop hshort)]
    exact (hstream.own (Emits.goto _ _)).own (Emits.raise _ _)

/-- A request in progress performs at most its bound of events, none of which touches a line but the data lines, WR, DC and,
in BEGIN, RST (10_state.md R31; 60_exceptions.md R264). -/
theorem bodyOf_emits (i : Instr) (s : State) (hl : ∀ x0 y0 x1 y1 buf, i = .render x0 y0 x1 y1 buf →
      pixelCount s.latches = (x1.toNat - x0.toNat + 1) * (y1.toNat - y0.toNat + 1)) :
    ∃ es, Emits es s (bodyOf i s) ∧ es.length ≤ eventBound s.config i ∧
      ∀ p, p ∉ s.config.pins.d.toList → p ≠ s.config.pins.wr → p ≠ s.config.pins.dc → (i = .begin → p ≠ s.config.pins.rst) →
        ∀ e ∈ es, LeavesLine p e := by
  have hwindow : ∀ p, p ∉ s.config.pins.d.toList → p ≠ s.config.pins.wr → p ≠ s.config.pins.dc →
      ∀ e ∈ windowEvents s.config s.latches, LeavesLine p e := fun p hd hw hdc => by
    simp only [windowEvents, List.forall_mem_append, List.forall_mem_flatMap, List.forall_mem_singleton]
    exact ⟨fun t _ => byteEvents_leaveLine s.cfg t hd hw hdc, leavesLine_line _ hdc⟩
  cases i with
  | begin =>
    rw [bodyOf_begin]
    refine ⟨_, (Emits.performEvents _ s).own (Emits.completeInit _), (length_beginEvents s.config).le,
      fun p hd hw hdc hrst => ?_⟩
    have hbyte (t : ByteTx) := byteEvents_leaveLine s.cfg t hd hw hdc
    have hpulse : ∀ e ∈ resetEvents s.config, LeavesLine p e := by
      simp only [resetEvents, List.forall_mem_cons]
      exact ⟨leavesLine_line _ hw, leavesLine_line _ (hrst rfl), leavesLine_delay _, leavesLine_line _ (hrst rfl),
        leavesLine_delay _, leavesLine_line _ (hrst rfl), leavesLine_delay _, nofun⟩
    simp only [beginEvents, List.forall_mem_append, List.forall_mem_singleton, List.forall_mem_flatMap]
    exact ⟨⟨⟨⟨hpulse, fun t _ => hbyte t⟩, hbyte _⟩, leavesLine_delay _⟩, hbyte _⟩
  | setwin =>
    rw [bodyOf_setwin]
    exact ⟨_, (Emits.performEvents _ s).own (Emits.complete _), (length_windowEvents s.config s.latches).le,
      fun p hd hw hdc _ => hwindow p hd hw hdc⟩
  | render =>
    obtain ⟨is, hlen, hemits⟩ := renderBody_emits s
    refine ⟨_, hemits, ?_, fun p hd hw hdc _ => ?_⟩
    · rw [hl _ _ _ _ _ rfl] at hlen
      rw [List.length_append, length_windowEvents, length_pixelEvents]
      exact Nat.add_le_add_left (Nat.mul_le_mul_left 3 hlen) 45
    · simp only [pixelEvents, List.forall_mem_append, List.forall_mem_flatMap]
      exact ⟨hwindow p hd hw hdc, fun i _ => transferEvents_leaveLine s.cfg .colour i hd hw⟩
  | wrcmd b =>
    rw [bodyOf_wrcmd]
    exact ⟨_, (Emits.performEvents _ s).own (Emits.complete _), Nat.le_refl 4,
      fun p hd hw hdc _ => byteEvents_leaveLine s.cfg _ hd hw hdc⟩
  | wrdata b =>
    rw [bodyOf_wrdata]
    exact ⟨_, (Emits.performEvents _ s).own (Emits.complete _), Nat.le_refl 4,
      fun p hd hw hdc _ => byteEvents_leaveLine s.cfg _ hd hw hdc⟩

/-- What a whole request does, turned away or run. -/
theorem exec_emits {i : Instr} {s t : State} (h : exec i s = .next t) : ∃ es, Emits es s t ∧
    es.length ≤ eventBound s.config i ∧
    ∀ p, p ∉ s.config.pins.d.toList → p ≠ s.config.pins.wr → p ≠ s.config.pins.dc → (i = .begin → p ≠ s.config.pins.rst) →
      levelOf t.out p = levelOf s.out p := by
  rcases exec_cases h with haway | ⟨-, rfl⟩
  · have hemits := Emits.turnedAway haway
    exact ⟨[], hemits, Nat.zero_le _, fun p _ _ _ _ => by rw [hemits.out]; rfl⟩
  · obtain ⟨es, hbody, hlen, hlines⟩ := bodyOf_emits i (begun i s) (by rintro _ _ _ _ _ rfl; rfl)
    have hemits := (Emits.begun i s).trans hbody
    exact ⟨es, hemits, hlen, fun p hd hw hdc hrst => by
      rw [hemits.out]
      exact levelOf_replay_of_leavesLine (hlines p hd hw hdc hrst) _⟩

/-- Settles O34. -/
theorem requestsEmitBoundedEvents : Obligations.RequestsEmitBoundedEvents := fun i s t h => by
  obtain ⟨es, hemits, hlen, -⟩ := exec_emits h
  rw [hemits.trace, List.length_append]
  omega

/-! ## What only one request changes -/

/-- A request that is turned away keeps `INIT_DONE` and the pixel counters. -/
theorem TurnedAway.keeps {s t : State} (h : TurnedAway s t) :
    t.status.initDone = s.status.initDone ∧ t.total = s.total ∧ t.sent = s.sent ∧ t.pixel = s.pixel := by
  cases h <;> exact ⟨rfl, rfl, rfl, rfl⟩

theorem closeStream_sendPixels_initDone (k : Nat) (s : State) :
    (closeStream (sendPixels k s)).status.initDone = s.status.initDone := by
  induction k generalizing s with
  | zero => rfl
  | succ k ih =>
    cases hread : readPixel s.fb s.latches s.sent with
    | none => rw [sendPixels_of_unreadable k s hread]; rfl
    | some i =>
      simp only [sendPixels, sendPixel_of_read s i hread]
      exact (ih _).trans rfl

theorem bodyOf_initDone {i : Instr} (hi : i ≠ .begin) (s : State) :
    (bodyOf i s).status.initDone = s.status.initDone := by
  cases i with
  | begin => exact absurd rfl hi
  | setwin => rw [bodyOf_setwin]; rfl
  | render => exact (congrArg (·.status.initDone) (renderBody_eq_closeStream s)).trans (closeStream_sendPixels_initDone _ _)
  | wrcmd => rw [bodyOf_wrcmd]; rfl
  | wrdata => rw [bodyOf_wrdata]; rfl

theorem bodyOf_counters {i : Instr} (hi : ∀ x0 y0 x1 y1 buf, i ≠ .render x0 y0 x1 y1 buf) (s : State) :
    (bodyOf i s).total = s.total ∧ (bodyOf i s).sent = s.sent ∧ (bodyOf i s).pixel = s.pixel := by
  cases i with
  | begin => rw [bodyOf_begin]; exact ⟨rfl, rfl, rfl⟩
  | setwin => rw [bodyOf_setwin]; exact ⟨rfl, rfl, rfl⟩
  | render => exact absurd rfl (hi _ _ _ _ _)
  | wrcmd => rw [bodyOf_wrcmd]; exact ⟨rfl, rfl, rfl⟩
  | wrdata => rw [bodyOf_wrdata]; exact ⟨rfl, rfl, rfl⟩

/-- Only BEGIN changes `INIT_DONE`. -/
theorem exec_initDone {i : Instr} {s t : State} (hi : i ≠ .begin) (h : exec i s = .next t) :
    t.status.initDone = s.status.initDone := by
  rcases exec_cases h with haway | ⟨-, rfl⟩
  · exact haway.keeps.1
  · exact bodyOf_initDone hi _

/-- Only RENDER changes the pixel counters and the pixel index. -/
theorem exec_counters {i : Instr} {s t : State} (hi : ∀ x0 y0 x1 y1 buf, i ≠ .render x0 y0 x1 y1 buf)
    (h : exec i s = .next t) : t.total = s.total ∧ t.sent = s.sent ∧ t.pixel = s.pixel := by
  rcases exec_cases h with haway | ⟨-, rfl⟩
  · exact haway.keeps.2
  · exact bodyOf_counters hi _

/-- Settles O31. A request performs events and changes the block's own registers (`exec_emits`), and its events touch the
data lines, WR, DC and, in BEGIN, RST. -/
theorem requestsLeaveTheRestAlone : Obligations.RequestsLeaveTheRestAlone := fun i s t h => by
  obtain ⟨es, hemits, -, hlines⟩ := exec_emits h
  obtain ⟨⟨-, -, hrstd, hcsd, hbld⟩, -, hdcrst, hdccs, hdcbl, hwrrst, hwrcs, hwrbl, hrstcs, hrstbl, -⟩ :=
    controlLines_distinct s.cfg.nodup
  refine ⟨hemits.cfg, ?req0, ?req1, ?req2, ?req3, fun a => congrArg (Memory.read · a) hemits.fb, hemits.schedule, ?readback,
    ?draws, hemits.startOut, hemits.others, ⟨es, hemits.trace⟩, fun p hp => ?lines,
    fun hi => ⟨hlines _ hrstd hwrrst.symm hdcrst.symm fun h => absurd h hi, exec_initDone hi h⟩, fun hi => exec_counters hi h⟩
  case lines =>
    rcases hp with rfl | rfl | hp
    · exact hlines _ hcsd hwrcs.symm hdccs.symm fun _ => hrstcs.symm
    · exact hlines _ hbld hwrbl.symm hdcbl.symm fun _ => hrstbl.symm
    · simp only [signalLines, List.mem_append, List.mem_cons, List.not_mem_nil, or_false, not_or] at hp
      obtain ⟨hd, hdc, hw, hrst, -, -⟩ := hp
      exact hlines _ hd hw hdc fun _ => hrst
  all_goals
    obtain ⟨_, _, _, _, _, _, _, rfl⟩ := hemits
    rfl

/-! ## What a request does not depend on -/

/-- The two configurations differ in what no request reads: the unroll factor, the pads, the timing figures and the addresses
(92_eei_decisions.md D26, D27, D30). -/
def SameBus (c c' : Config) : Prop := ∃ unroll nopLow nopHigh timing gpioSetAddr gpioClrAddr lineAddrs regBase, c' = { c with
  unroll := unroll, nopLow := nopLow, nopHigh := nopHigh, timing := timing, gpioSetAddr := gpioSetAddr
  gpioClrAddr := gpioClrAddr, lineAddrs := lineAddrs, regBase := regBase }

namespace SameBus

theorem refl (c : Config) : SameBus c c := ⟨_, _, _, _, _, _, _, _, rfl⟩

theorem byteEvents (t : ByteTx) : ∀ {c c'}, SameBus c c' → byteEvents c' t = byteEvents c t
  | _, _, ⟨_, _, _, _, _, _, _, _, rfl⟩ => rfl

theorem beginEvents : ∀ {c c'}, SameBus c c' → beginEvents c' = beginEvents c
  | _, _, ⟨_, _, _, _, _, _, _, _, rfl⟩ => rfl

theorem windowEvents (l : Latches) : ∀ {c c'}, SameBus c c' → windowEvents c' l = windowEvents c l
  | _, _, ⟨_, _, _, _, _, _, _, _, rfl⟩ => rfl

theorem transferEvents (t : LutPair) (i : Byte) : ∀ {c c'}, SameBus c c' → transferEvents c' t i = transferEvents c t i
  | _, _, ⟨_, _, _, _, _, _, _, _, rfl⟩ => rfl

end SameBus

/-- `s` on another board and with another memory. -/
def rehome (b : Board) (m : Memory) (s : State) : State := { s with cfg := b, fb := m }

section

variable {b : Board} {m : Memory} {s : State} (hbus : SameBus s.config b.cfg)

include hbus

/-- A stream reads the same bytes there, so it sends the same events. -/
theorem closeStream_sendPixels_rehome (k : Nat)
    (hread : ∀ j < k, readPixel m s.latches (s.sent + j) = readPixel s.fb s.latches (s.sent + j)) :
    closeStream (sendPixels k (rehome b m s)) = rehome b m (closeStream (sendPixels k s)) := by
  induction k generalizing s with
  | zero => rfl
  | succ k ih =>
    have hnext : readPixel (rehome b m s).fb (rehome b m s).latches (rehome b m s).sent = readPixel s.fb s.latches s.sent :=
      hread 0 (Nat.succ_pos k)
    cases hs : readPixel s.fb s.latches s.sent with
    | none =>
      rw [sendPixels_of_unreadable k s hs, sendPixels_of_unreadable k _ (hnext.trans hs)]
      rfl
    | some i =>
      have hturn : countPixel (transfer .colour i (holdPixel i (goto (.rRd s.sent) (rehome b m s)))) =
          rehome b m (countPixel (transfer .colour i (holdPixel i (goto (.rRd s.sent) s)))) := by
        rw [transfer_eq_performEvents, transfer_eq_performEvents]
        exact congrArg (fun es => countPixel (performEvents es _)) (hbus.transferEvents .colour i)
      have hrest := ih (s := countPixel (transfer .colour i (holdPixel i (goto (.rRd s.sent) s)))) hbus fun j hj => by
        have h := hread (j + 1) (Nat.succ_lt_succ hj)
        rwa [Nat.add_comm j 1, ← Nat.add_assoc] at h
      simp only [sendPixels, sendPixel_of_read s i hs, sendPixel_of_read _ i (hnext.trans hs)]
      exact (congrArg (fun u => closeStream (sendPixels k u)) hturn).trans hrest

theorem bodyOf_rehome (i : Instr)
    (hread : ∀ n < pixelCount s.latches, readPixel m s.latches n = readPixel s.fb s.latches n) :
    bodyOf i (rehome b m s) = rehome b m (bodyOf i s) := by
  cases i with
  | begin =>
    rw [bodyOf_begin, bodyOf_begin]
    exact congrArg (fun es => completeInit (performEvents es _)) hbus.beginEvents
  | setwin =>
    rw [bodyOf_setwin, bodyOf_setwin]
    exact congrArg (fun es => complete (performEvents es _)) (hbus.windowEvents s.latches)
  | render =>
    have hopen : streamOpened (rehome b m s) = rehome b m (streamOpened s) :=
      congrArg (fun es => openStream (performEvents es _)) (hbus.windowEvents s.latches)
    have hstream := closeStream_sendPixels_rehome (s := streamOpened s) hbus (pixelCount s.latches) fun j hj => by
      simpa [streamOpened, performEvents] using hread j hj
    exact (renderBody_eq_closeStream _).trans ((congrArg (fun u => closeStream (sendPixels _ u)) hopen).trans
      (hstream.trans (congrArg _ (renderBody_eq_closeStream s).symm)))
  | wrcmd =>
    rw [bodyOf_wrcmd, bodyOf_wrcmd]
    exact congrArg (fun es => complete (performEvents es _)) (hbus.byteEvents _)
  | wrdata =>
    rw [bodyOf_wrdata, bodyOf_wrdata]
    exact congrArg (fun es => complete (performEvents es _)) (hbus.byteEvents _)

/-- A request does the same on a board that sends the same events and with a memory that holds the same buffer: the start
checks read neither, and the body is `bodyOf_rehome`. -/
theorem exec_rehome {i : Instr} {t : State} (hread : ∀ n < pixelCount (latchRequest i s.descriptor),
      readPixel m (latchRequest i s.descriptor) n = readPixel s.fb (latchRequest i s.descriptor) n)
    (h : exec i s = .next t) : exec i (rehome b m s) = .next (rehome b m t) := by
  have hchecks : startFault i (latching i (rehome b m s)) = startFault i (latching i s) := by cases i <;> rfl
  rw [exec_eq_runRequest] at h ⊢
  cases hbusy : s.status.busy with
  | true =>
    rw [runRequest_of_busy i _ s hbusy] at h
    cases h
    exact runRequest_of_busy i _ (rehome b m s) hbusy
  | false =>
    cases hfault : s.status.fault with
    | some c =>
      have hheld : s.status.fault.isSome = true := Option.isSome_of_eq_some hfault
      rw [runRequest_of_heldFault i _ s hbusy hheld] at h
      cases h
      exact runRequest_of_heldFault i _ (rehome b m s) hbusy hheld
    | none =>
      cases hcheck : startFault i (latching i s) with
      | some c =>
        rw [runRequest_of_failedCheck i _ s hbusy hfault hcheck] at h
        cases h
        exact runRequest_of_failedCheck i _ (rehome b m s) hbusy hfault (hchecks.trans hcheck)
      | none =>
        rw [runRequest_of_checks i _ s hbusy hfault hcheck] at h
        cases h
        refine (runRequest_of_checks i _ (rehome b m s) hbusy hfault (hchecks.trans hcheck)).trans (congrArg _ ?_)
        exact bodyOf_rehome (s := begun i s) hbus i hread

end

/-- Settles O33. -/
theorem padsAndTimingChangeNoRequest : Obligations.PadsAndTimingChangeNoRequest := by
  intro i s t b u l h tm ga gc rb la hcfg hexec
  have hfb : t.fb = s.fb := by
    obtain ⟨es, hemits, -⟩ := exec_emits hexec
    exact hemits.fb
  have hsame : rehome b s.fb t = { t with cfg := b } := by rw [rehome, ← hfb]
  exact (exec_rehome ⟨u, l, h, tm, ga, gc, la, rb, hcfg⟩ (fun _ _ => rfl) hexec).trans (congrArg _ hsame)

/-- Settles O30. RENDER reads the addresses of its `N` pixels and no other. -/
theorem renderReadsOnlyItsBuffer : Obligations.RenderReadsOnlyItsBuffer := by
  intro s t m x0 y0 x1 y1 buf hagree hexec
  have hcfg : t.cfg = s.cfg := by
    obtain ⟨es, hemits, -⟩ := exec_emits hexec
    exact hemits.cfg
  have hsame : rehome s.cfg m t = { t with fb := m } := by rw [rehome, ← hcfg]
  refine (exec_rehome (SameBus.refl s.config) (fun n hn => ?_) hexec).trans (congrArg _ hsame)
  have hat : Memory.read m (buf.toNat + n) = s.fb.read (buf.toNat + n) :=
    hagree (buf.toNat + n) (Nat.le_add_right _ _) (Nat.add_lt_add_left hn _)
  exact congrArg (fun r => if 2 ^ 32 - 1 < buf.toNat + n then none else r) hat

end Sys2Proof.Machine
end

section
/-! What one step of the block, and one step of the machine, can do, said once (10_state.md R45; 60_exceptions.md R253 to R262). -/

namespace Sys2Proof.Machine

/-! ## One step of a transfer: the events it performs, and the sub-phase after it -/

/-- The events of sub-phase `p` of a transfer of entry `i` of table pair `t` (40_bus_primitive.md R140, R145). -/
def coreEvents (c : Config) (t : LutPair) (i : Byte) : CorePhase → List Event
  | .set => [.set (lutRead c t.setTable i)]
  | .clr => [.clr (lutRead c t.clrTable i)]
  | .wr => [.line c.pins.wr true]
  | .padl _ | .padh _ => []

/-- The sub-phase after `p`, nothing after the last. -/
def nextCore (c : Config) : CorePhase → Option CorePhase
  | .set => some .clr
  | .clr => some (afterClr c)
  | .padl k => some (if k + 1 < c.nopLow then .padl (k + 1) else .wr)
  | .wr => afterWr c
  | .padh k => if k + 1 < c.nopHigh then some (.padh (k + 1)) else none

theorem stepCore_eq (t : LutPair) (i : Byte) (p : CorePhase) (s : State) :
    stepCore t i p s = (performEvents (coreEvents s.config t i p) s, nextCore s.config p) := by
  cases p with
  | set | clr | wr => rfl
  | padl k | padh k => exact Prod.ext (performEvents_nil s).symm rfl

/-- As `coreEvents` for a byte transfer (40_bus_primitive.md R146). -/
def txEvents (c : Config) (x : ByteTx) : TxPhase → List Event
  | .dc => [.line c.pins.dc x.1]
  | .core p => coreEvents c .command x.2 p

/-- As `nextCore` for a byte transfer. -/
def nextTx (c : Config) : TxPhase → Option TxPhase
  | .dc => some (.core .set)
  | .core p => (nextCore c p).map .core

theorem stepTx_eq (x : ByteTx) (p : TxPhase) (s : State) :
    stepTx x p s = (performEvents (txEvents s.config x p) s, nextTx s.config p) := by
  cases p with
  | dc => rfl
  | core q => simp only [stepTx, stepCore_eq]; rfl

theorem length_coreEvents_le (c : Config) (t : LutPair) (i : Byte) (p : CorePhase) : (coreEvents c t i p).length ≤ 1 := by
  cases p <;> simp [coreEvents]

theorem length_txEvents_le (c : Config) (x : ByteTx) (p : TxPhase) : (txEvents c x p).length ≤ 1 := by
  cases p with
  | dc => exact Nat.le_refl 1
  | core q => exact length_coreEvents_le c .command x.2 q

theorem continueTx_some {α : Type} (at_ : α → Seq) (fin : State → State) (s : State) (q : α) :
    continueTx at_ fin (s, some q) = goto (at_ q) s := rfl

theorem continueTx_none {α : Type} (at_ : α → Seq) (fin : State → State) (s : State) :
    continueTx at_ fin (s, none) = fin s := rfl

/-! ## One step of the block -/

/-- The block at `s` is in a transfer of `x`: its sub-phases stand at `at_`, and after it the block goes on by `fin`
(40_bus_primitive.md R145; 41_panel_init.md R171; 42_addr_window.md R201; 43_pixel_stream.md R221). -/
inductive TransferAt (s : State) : (TxPhase → Seq) → ByteTx → (State → State) → Prop
  | request : TransferAt s .tx (s.latches.op == 5, s.latches.byte) complete
  | initSeq {j : Nat} {x : ByteTx} (hj : (initTxs s.config)[j]? = some x) : TransferAt s (.bSeq j) x
      fun u => if j + 1 < (initTxs s.config).length then goto (.bSeq (j + 1) .dc) u else goto (.bSlp .dc) u
  | sleepExit : TransferAt s .bSlp (commandTx s.config.opSlpout) (goto .bD4)
  | displayOn : TransferAt s .bOn (commandTx s.config.opDispon) completeInit
  | window {j : Nat} {x : ByteTx} (hj : (windowTxs s.config s.latches)[j]? = some x) : TransferAt s (.wTx j) x
      fun u => if j + 1 < (windowTxs s.config s.latches).length then goto (.wTx (j + 1) .dc) u else goto .wDc u
  | renderWindow {j : Nat} {x : ByteTx} (hj : (windowTxs s.config s.latches)[j]? = some x) : TransferAt s (.rWinTx j) x
      fun u => if j + 1 < (windowTxs s.config s.latches).length then goto (.rWinTx (j + 1) .dc) u else goto .rWinDc u

/-- BEGIN's positions outside its transfers: the primitive of each, and the position after it (41_panel_init.md R171). -/
inductive PulseStep (c : Config) : Seq → Event → Seq → Prop
  | wrHigh : PulseStep c .bWr (.line c.pins.wr true) .bRst
  | rstHigh : PulseStep c .bRst (.line c.pins.rst true) .bD1
  | waitPre : PulseStep c .bD1 (.delay tRstPre) .bRlo
  | rstLow : PulseStep c .bRlo (.line c.pins.rst false) .bD2
  | waitLow : PulseStep c .bD2 (.delay tRstLow) .bRhi
  | rstHighAgain : PulseStep c .bRhi (.line c.pins.rst true) .bD3
  | waitPost : PulseStep c .bD3 (.delay tRstPost) (.bSeq 0 .dc)
  | waitSleepExit : PulseStep c .bD4 (.delay tSlpout) (.bOn .dc)

/-- What one step of the block makes of `s`. -/
inductive Advanced (s : State) : State → Prop
  | waits (hbusy : s.status.busy = false) : Advanced s s
  | pulse {q q' : Seq} {e : Event} (hbusy : s.status.busy = true) (hseq : s.seq = q) (hstep : PulseStep s.config q e q') :
      Advanced s (goto q' (performEvents [e] s))
  | txGoesOn {at_ : TxPhase → Seq} {x : ByteTx} {fin : State → State} {p q : TxPhase} (hbusy : s.status.busy = true)
      (hat : TransferAt s at_ x fin) (hseq : s.seq = at_ p) (hnext : nextTx s.config p = some q) :
      Advanced s (goto (at_ q) (performEvents (txEvents s.config x p) s))
  | txEnds {at_ : TxPhase → Seq} {x : ByteTx} {fin : State → State} {p : TxPhase} (hbusy : s.status.busy = true)
      (hat : TransferAt s at_ x fin) (hseq : s.seq = at_ p) (hnext : nextTx s.config p = none) :
      Advanced s (fin (performEvents (txEvents s.config x p) s))
  | windowSent (hbusy : s.status.busy = true) (hseq : s.seq = .wDc) :
      Advanced s (complete (performEvents [.line s.config.pins.dc true] s))
  | streamOpens (hbusy : s.status.busy = true) (hseq : s.seq = .rWinDc) :
      Advanced s (nextPixel (openStream (performEvents [.line s.config.pins.dc true] s)))
  | pixelUnreadable {n : Nat} (hbusy : s.status.busy = true) (hseq : s.seq = .rRd n)
      (hread : readPixel s.fb s.latches s.sent = none) : Advanced s (raise .bufOob s)
  | pixelRead {n : Nat} {i : Byte} (hbusy : s.status.busy = true) (hseq : s.seq = .rRd n)
      (hread : readPixel s.fb s.latches s.sent = some i) : Advanced s (goto (.rPix s.sent .set) (holdPixel i s))
  | pixelGoesOn {n : Nat} {p q : CorePhase} (hbusy : s.status.busy = true) (hseq : s.seq = .rPix n p)
      (hnext : nextCore s.config p = some q) :
      Advanced s (goto (.rPix n q) (performEvents (coreEvents s.config .colour s.pixel p) s))
  | pixelEnds {n : Nat} {p : CorePhase} (hbusy : s.status.busy = true) (hseq : s.seq = .rPix n p)
      (hnext : nextCore s.config p = none) :
      Advanced s (nextPixel (countPixel (performEvents (coreEvents s.config .colour s.pixel p) s)))

theorem advance_of_idle {s : State} (hbusy : s.status.busy = false) : advance s = .next s := if_pos hbusy

section

variable {s t : State} (hbusy : s.status.busy = true)

include hbusy

theorem advance_of_pulseStep {q q' : Seq} {e : Event} (hseq : s.seq = q) (hstep : PulseStep s.config q e q') :
    advance s = .next (goto q' (performEvents [e] s)) := by
  cases hstep <;> simp only [advance, hbusy, Bool.true_eq_false, if_false, hseq] <;> rfl

theorem advance_of_wDc (hseq : s.seq = .wDc) :
    advance s = .next (complete (performEvents [.line s.config.pins.dc true] s)) := by
  simp only [advance, hbusy, Bool.true_eq_false, if_false, hseq]
  rfl

theorem advance_of_rWinDc (hseq : s.seq = .rWinDc) :
    advance s = .next (nextPixel (openStream (performEvents [.line s.config.pins.dc true] s))) := by
  simp only [advance, hbusy, Bool.true_eq_false, if_false, hseq]
  rfl

theorem advance_of_unreadable {n : Nat} (hseq : s.seq = .rRd n) (hread : readPixel s.fb s.latches s.sent = none) :
    advance s = .next (raise .bufOob s) := by
  simp only [advance, hbusy, Bool.true_eq_false, if_false, hseq, hread]

theorem advance_of_readable {n : Nat} {i : Byte} (hseq : s.seq = .rRd n)
    (hread : readPixel s.fb s.latches s.sent = some i) : advance s = .next (goto (.rPix s.sent .set) (holdPixel i s)) := by
  simp only [advance, hbusy, Bool.true_eq_false, if_false, hseq, hread]

theorem advance_of_rPix {n : Nat} {p : CorePhase} (hseq : s.seq = .rPix n p) : advance s = .next (continueTx (.rPix n)
    (fun u => nextPixel (countPixel u)) (performEvents (coreEvents s.config .colour s.pixel p) s, nextCore s.config p)) := by
  rw [← stepCore_eq]
  simp only [advance, hbusy, Bool.true_eq_false, if_false, hseq]

theorem advance_of_transferAt {at_ : TxPhase → Seq} {x : ByteTx} {fin : State → State} {p : TxPhase}
    (hat : TransferAt s at_ x fin) (hseq : s.seq = at_ p) : advance s = .next (continueTx at_ fin
      (performEvents (txEvents s.config x p) s, nextTx s.config p)) := by
  rw [← stepTx_eq]
  cases hat with
  | request | sleepExit | displayOn => simp only [advance, hbusy, Bool.true_eq_false, if_false, hseq]
  | initSeq hj | window hj | renderWindow hj =>
    simp only [advance, hbusy, Bool.true_eq_false, if_false, hseq]
    simp only [stepListTx, hj]

theorem advanced_of_transferAt {at_ : TxPhase → Seq} {x : ByteTx} {fin : State → State} {p : TxPhase}
    (hat : TransferAt s at_ x fin) (hseq : s.seq = at_ p) (h : advance s = .next t) : Advanced s t := by
  rw [advance_of_transferAt hbusy hat hseq] at h
  cases hnext : nextTx s.config p with
  | none =>
    rw [hnext, continueTx_none] at h
    cases h
    exact .txEnds hbusy hat hseq hnext
  | some q =>
    rw [hnext, continueTx_some] at h
    cases h
    exact .txGoesOn hbusy hat hseq hnext

end

/-- A step of a list's transfer beyond its end answers no next state, and before it is a step of that transfer. -/
theorem getElem?_of_stepListTx {l : List ByteTx} {at_ : Nat → TxPhase → Seq} {fin : State → State} {j : Nat} {p : TxPhase}
    {s t : State} (h : stepListTx l at_ fin j p s = .next t) : ∃ x, l[j]? = some x := by
  cases hj : l[j]? with
  | none => simp only [stepListTx, hj] at h; cases h
  | some x => exact ⟨x, rfl⟩

theorem advance_cases {s t : State} (h : advance s = .next t) : Advanced s t := by
  cases hbusy : s.status.busy with
  | false =>
    rw [advance_of_idle hbusy] at h
    cases h
    exact .waits hbusy
  | true =>
    have pulse {q q' : Seq} {e : Event} (hseq : s.seq = q) (hstep : PulseStep s.config q e q') : Advanced s t := by
      rw [advance_of_pulseStep hbusy hseq hstep] at h
      cases h
      exact .pulse hbusy hseq hstep
    have himm := h
    simp only [advance, hbusy, Bool.true_eq_false, if_false] at himm
    cases hseq : s.seq with
    | idle | faulted => rw [hseq] at himm; cases himm
    | bWr => exact pulse hseq .wrHigh
    | bRst => exact pulse hseq .rstHigh
    | bD1 => exact pulse hseq .waitPre
    | bRlo => exact pulse hseq .rstLow
    | bD2 => exact pulse hseq .waitLow
    | bRhi => exact pulse hseq .rstHighAgain
    | bD3 => exact pulse hseq .waitPost
    | bD4 => exact pulse hseq .waitSleepExit
    | tx p => exact advanced_of_transferAt hbusy .request hseq h
    | bSlp p => exact advanced_of_transferAt hbusy .sleepExit hseq h
    | bOn p => exact advanced_of_transferAt hbusy .displayOn hseq h
    | bSeq j p =>
      rw [hseq] at himm
      obtain ⟨x, hj⟩ := getElem?_of_stepListTx himm
      exact advanced_of_transferAt hbusy (.initSeq hj) hseq h
    | wTx j p =>
      rw [hseq] at himm
      obtain ⟨x, hj⟩ := getElem?_of_stepListTx himm
      exact advanced_of_transferAt hbusy (.window hj) hseq h
    | rWinTx j p =>
      rw [hseq] at himm
      obtain ⟨x, hj⟩ := getElem?_of_stepListTx himm
      exact advanced_of_transferAt hbusy (.renderWindow hj) hseq h
    | wDc =>
      rw [advance_of_wDc hbusy hseq] at h
      cases h
      exact .windowSent hbusy hseq
    | rWinDc =>
      rw [advance_of_rWinDc hbusy hseq] at h
      cases h
      exact .streamOpens hbusy hseq
    | rRd n =>
      cases hread : readPixel s.fb s.latches s.sent with
      | none =>
        rw [advance_of_unreadable hbusy hseq hread] at h
        cases h
        exact .pixelUnreadable hbusy hseq hread
      | some i =>
        rw [advance_of_readable hbusy hseq hread] at h
        cases h
        exact .pixelRead hbusy hseq hread
    | rPix n p =>
      rw [advance_of_rPix hbusy hseq] at h
      cases hnext : nextCore s.config p with
      | none =>
        rw [hnext, continueTx_none] at h
        cases h
        exact .pixelEnds hbusy hseq hnext
      | some q =>
        rw [hnext, continueTx_some] at h
        cases h
        exact .pixelGoesOn hbusy hseq hnext

/-! ### What a step of the block emits, and what it does to STATUS -/

namespace Emits

theorem nextPixel (s : State) : Emits [] s (nextPixel s) := by
  unfold Machine.nextPixel
  split
  · exact goto _ s
  · exact complete s

theorem countPixel (s : State) : Emits [] s (countPixel s) := nil s _ _ _ _ _ _ _
theorem holdPixel (i : Byte) (s : State) : Emits [] s (holdPixel i s) := nil s _ _ _ _ _ _ _

/-- What follows a transfer changes the block's own registers alone. -/
theorem transferAt_fin {s : State} {at_ : TxPhase → Seq} {x : ByteTx} {fin : State → State} (hat : TransferAt s at_ x fin)
    (u : State) : Emits [] u (fin u) := by
  cases hat with
  | request => exact complete u
  | sleepExit => exact goto _ u
  | displayOn => exact completeInit u
  | initSeq | window | renderWindow => dsimp only; split <;> exact goto _ u

end Emits

/-- One step of the block performs at most one event. -/
theorem Advanced.emits {s t : State} (h : Advanced s t) : ∃ es, es.length ≤ 1 ∧ Emits es s t := by
  cases h with
  | waits => exact ⟨[], Nat.zero_le 1, Emits.refl s⟩
  | pulse => exact ⟨[_], Nat.le_refl 1, (Emits.performEvents _ s).own (Emits.goto _ _)⟩
  | txGoesOn => exact ⟨_, length_txEvents_le _ _ _, (Emits.performEvents _ s).own (Emits.goto _ _)⟩
  | txEnds _ hat => exact ⟨_, length_txEvents_le _ _ _, (Emits.performEvents _ s).own (Emits.transferAt_fin hat _)⟩
  | windowSent => exact ⟨[_], Nat.le_refl 1, (Emits.performEvents _ s).own (Emits.complete _)⟩
  | streamOpens =>
    exact ⟨[_], Nat.le_refl 1, ((Emits.performEvents _ s).own (Emits.openStream _)).own (Emits.nextPixel _)⟩
  | pixelUnreadable => exact ⟨[], Nat.zero_le 1, Emits.raise _ s⟩
  | pixelRead => exact ⟨[], Nat.zero_le 1, (Emits.holdPixel _ s).own (Emits.goto _ _)⟩
  | pixelGoesOn => exact ⟨_, length_coreEvents_le _ _ _ _, (Emits.performEvents _ s).own (Emits.goto _ _)⟩
  | pixelEnds =>
    exact ⟨_, length_coreEvents_le _ _ _ _, ((Emits.performEvents _ s).own (Emits.countPixel _)).own (Emits.nextPixel _)⟩

theorem nextPixel_status (s : State) : (nextPixel s).status = s.status ∨ (nextPixel s).status = s.status.finish := by
  unfold nextPixel
  split
  · exact .inl rfl
  · exact .inr rfl

/-- STATUS after a step of the block: kept; BUSY lowered; `BUF_OOB` raised; or BEGIN completed by the last step of its
display-on transfer. -/
theorem Advanced.status {s t : State} (h : Advanced s t) : t.status = s.status ∨ t.status = s.status.finish ∨
    t.status = s.status.raise .bufOob ∨
    (∃ p, s.status.busy = true ∧ s.seq = .bOn p ∧ t.status = s.status.finishInit ∧ t.seq = .idle) := by
  cases h with
  | waits | pulse | txGoesOn | pixelRead | pixelGoesOn => exact .inl rfl
  | windowSent => exact .inr (.inl rfl)
  | streamOpens | pixelEnds => exact (nextPixel_status _).imp id .inl
  | pixelUnreadable => exact .inr (.inr (.inl rfl))
  | txEnds hbusy hat hseq =>
    cases hat with
    | request => exact .inr (.inl rfl)
    | sleepExit => exact .inl rfl
    | displayOn => exact .inr (.inr (.inr ⟨_, hbusy, hseq, rfl, rfl⟩))
    | initSeq | window | renderWindow => dsimp only; split <;> exact .inl rfl

/-! ## One step of the machine -/

/-- `u` is `s` but for the host's side: its schedule, from which moves were taken, the request registers and what it has
read. -/
def HostSide (s u : State) : Prop := ∃ schedule req0 req1 req2 req3 readback, (∀ m ∈ schedule, m ∈ s.schedule) ∧
  u = { s with schedule := schedule, req0 := req0, req1 := req1, req2 := req2, req3 := req3, readback := readback }

/-- What one step makes of `s`. -/
inductive Stepped (s : State) : State → Prop
  | advanced {u t : State} (hu : HostSide s u) (h : Advanced u t) : Stepped s t
  | hosted {u : State} (hu : HostSide s u) : Stepped s u
  | turnedAway {u t : State} (hu : HostSide s u) (h : TurnedAway u t) : Stepped s t
  | started {u : State} (hu : HostSide s u) (i : Instr) (h : Begins i u) : Stepped s (begun i u)
  | called {u : State} (hu : HostSide s u) (v : Word) (ms : List HostMove) (hcall : s.schedule = .call v :: ms) (i : Instr)
      (hdecode : decode ⟨v, s.req1, s.req2, s.req3⟩ = .ok i) (h : Begins i u) : Stepped s (bodyOf i (begun i u))
  | reset {u : State} (hu : HostSide s u) (hreset : resetNext s = true) (out : Word) (draws : Nat) :
      Stepped s (blockReset { u with out := out, draws := draws })
  | memory {u : State} (hu : HostSide s u) (m : Memory) (hwf : Memory.wf s.fb = true → Memory.wf m = true) :
      Stepped s { u with fb := m }
  | otherAgent {u : State} (hu : HostSide s u) (set clr : Word) (hmask : (set ||| clr) &&& signalMask s.config.pins = 0) :
      Stepped s { u with out := applyMasks u.out set clr, others := u.others ++ [⟨u.trace.length, set, clr⟩] }

theorem startRequest_cases (v : Word) (s : State) : TurnedAway { s with req0 := v } (startRequest v s) ∨
    ∃ i, Begins i { s with req0 := v } ∧ startRequest v s = begun i { s with req0 := v } := by
  unfold startRequest
  dsimp only
  split
  · exact .inl (startIllegal_turnedAway _)
  · rename_i i _
    rcases start_cases i { s with req0 := v } with ⟨t, hstart, haway⟩ | ⟨hbegins, hstart⟩
    · rw [hstart]; exact .inl haway
    · rw [hstart]; exact .inr ⟨i, hbegins, rfl⟩

theorem callRequest_cases {v : Word} {s t : State} (h : callRequest v s = .next t) : TurnedAway { s with req0 := v } t ∨
    ∃ i, decode ⟨v, s.req1, s.req2, s.req3⟩ = .ok i ∧ Begins i { s with req0 := v } ∧ t = bodyOf i (begun i { s with req0 := v }) := by
  unfold callRequest at h
  dsimp only at h
  split at h
  · cases h
    exact .inl (startIllegal_turnedAway _)
  · rename_i i hdecode
    exact (exec_cases h).imp id fun ⟨hbegins, ht⟩ => ⟨i, hdecode, hbegins, ht⟩

theorem step_nil {s : State} (h : s.schedule = []) : step s = advance s := by
  rw [step, h]

theorem step_cons {s : State} {m : HostMove} {ms : List HostMove} (h : s.schedule = m :: ms) :
    step s = hostMove m { s with schedule := ms } := by
  rw [step, h]

/-- A write to a register: a store, a store that breaks into a request, or the presentation of a request. -/
theorem writeRegister_stepped {s u : State} (hu : HostSide s u) (off : Nat) (v : Word) :
    Stepped s (writeRegister off v u) := by
  obtain ⟨schedule, req0, req1, req2, req3, readback, hms, rfl⟩ := hu
  have stored (r0 r1 r2 r3 : Word) : HostSide s { s with
      schedule := schedule, req0 := r0, req1 := r1, req2 := r2, req3 := r3, readback := readback } :=
    ⟨_, _, _, _, _, _, hms, rfl⟩
  have afterWrite (u : State) (hu : HostSide s u) : Stepped s (afterReqWrite u) := by
    unfold afterReqWrite
    split
    · exact .turnedAway hu (.busy ‹_›)
    · exact .hosted hu
  unfold writeRegister
  split
  · rcases startRequest_cases v { s with
        schedule := schedule, req0 := req0, req1 := req1, req2 := req2, req3 := req3, readback := readback } with
      haway | ⟨i, hbegins, hstart⟩
    · exact .turnedAway (stored v req1 req2 req3) haway
    · rw [hstart]
      exact .started (stored v req1 req2 req3) i hbegins
  · split
    · exact afterWrite _ (stored req0 v req2 req3)
    · split
      · exact afterWrite _ (stored req0 req1 v req3)
      · split
        · exact afterWrite _ (stored req0 req1 req2 v)
        · exact .hosted (stored req0 req1 req2 req3)

theorem step_cases {s t : State} (h : step s = .next t) : Stepped s t := by
  cases hs : s.schedule with
  | nil =>
    rw [step_nil hs] at h
    exact .advanced ⟨_, _, _, _, _, _, fun _ => id, rfl⟩ (advance_cases h)
  | cons m ms =>
    have taken : HostSide s { s with schedule := ms } :=
      ⟨ms, _, _, _, _, _, fun _ hm => hs ▸ List.mem_cons_of_mem _ hm, rfl⟩
    rw [step_cons hs] at h
    cases m with
    | wait => exact .advanced taken (advance_cases h)
    | waitIdle =>
      simp only [hostMove] at h
      split at h
      · exact .advanced ⟨.waitIdle :: ms, _, _, _, _, _, fun _ hm => hs ▸ hm, rfl⟩ (advance_cases h)
      · cases h; exact .hosted taken
    | read addr bytes =>
      simp only [hostMove, hostRead] at h
      split at h
      · cases h
      · cases h; exact .hosted ⟨ms, _, _, _, _, _, fun _ hm => hs ▸ List.mem_cons_of_mem _ hm, rfl⟩
    | write addr bytes v =>
      simp only [hostMove, hostWrite] at h
      split at h
      · cases h
      · cases h; exact writeRegister_stepped taken _ v
    | call v =>
      have hu : HostSide s { s with schedule := ms, req0 := v } :=
        ⟨ms, _, _, _, _, _, fun _ hm => hs ▸ List.mem_cons_of_mem _ hm, rfl⟩
      rcases callRequest_cases h with haway | ⟨i, hdecode, hbegins, rfl⟩
      · exact .turnedAway hu haway
      · exact .called hu v ms hs i hdecode hbegins
    | blockReset =>
      cases h
      exact .reset taken (by simp [resetNext, hs, isReset]) s.out s.draws
    | powerOn =>
      cases h
      exact .reset taken (by simp [resetNext, hs, isReset]) _ _
    | provide a v =>
      have hwf := provide_keeps_wf a v { s with schedule := ms } t
      simp only [hostMove, provide] at h hwf
      split at h
      · cases h
      · rename_i hfree
        cases h
        exact .memory taken _ fun hm => hwf hm (by rw [if_neg hfree])
    | withdraw a =>
      have hwf := withdraw_keeps_wf a { s with schedule := ms } t
      simp only [hostMove, withdraw] at h hwf
      split at h
      · cases h
      · rename_i hfree
        cases h
        exact .memory taken _ fun hm => hwf hm (by rw [if_neg hfree])
    | otherAgent set clr =>
      simp only [hostMove, otherAgent] at h
      split at h
      · cases h
      · rename_i hmask
        cases h
        exact .otherAgent taken set clr (not_not.1 hmask)

end Sys2Proof.Machine
end

section
/-! The statements about STATUS and the lines over a step (10_state.md R43; 60_exceptions.md R253; 92_eei_decisions.md D16, D33), about
what explains OUT (10_state.md R30, R49; 20_memory.md R85), and about final states (60_exceptions.md R253). -/

namespace Sys2Proof.Machine

/-! ## The signal lines, masked and line by line -/

theorem levelOf_signalMask (b : Board) (p : Line) :
    levelOf (signalMask b.cfg.pins) p = decide (p ∈ signalLines b.cfg.pins) := by
  simp only [signalMask, levelOf_or, levelOf_dataMask _ (dataLines_nodup b.nodup), wrBit, dcBit, rstBit, csBit, blBit,
    levelOf_lineBit, signalLines, List.mem_append, List.mem_cons, List.not_mem_nil, or_false, Bool.decide_or, Bool.or_assoc]

/-- Two GPIO states agree under the signal mask when they agree on every signal line. -/
theorem masked_eq_iff (b : Board) (v w : Word) : v &&& signalMask b.cfg.pins = w &&& signalMask b.cfg.pins ↔
    ∀ p ∈ signalLines b.cfg.pins, levelOf v p = levelOf w p := by
  refine ⟨fun h p hp => ?_, fun h => word_ext_level fun p => ?_⟩
  · simpa [levelOf_and, levelOf_signalMask, hp] using congrArg (levelOf · p) h
  · by_cases hp : p ∈ signalLines b.cfg.pins
    · simp [levelOf_and, levelOf_signalMask, hp, h p hp]
    · simp [levelOf_and, levelOf_signalMask, hp]

/-- Masks miss the signal mask when they name no signal line. -/
theorem masks_miss_signals_iff (b : Board) (set clr : Word) : (set ||| clr) &&& signalMask b.cfg.pins = 0 ↔
    ∀ p ∈ signalLines b.cfg.pins, levelOf set p = false ∧ levelOf clr p = false := by
  refine ⟨fun h p hp => ?_, fun h => word_ext_level fun p => ?_⟩
  · simpa [levelOf_and, levelOf_or, levelOf_zero, levelOf_signalMask, hp] using congrArg (levelOf · p) h
  · by_cases hp : p ∈ signalLines b.cfg.pins
    · simp [levelOf_and, levelOf_or, levelOf_zero, h p hp]
    · simp [levelOf_and, levelOf_zero, levelOf_signalMask, hp]

/-- Masks that miss the signal lines leave them alone. -/
theorem levelOf_applyMasks_of_miss {b : Board} {set clr : Word} (h : (set ||| clr) &&& signalMask b.cfg.pins = 0) (v : Word)
    {p : Line} (hp : p ∈ signalLines b.cfg.pins) : levelOf (applyMasks v set clr) p = levelOf v p := by
  obtain ⟨hset, hclr⟩ := (masks_miss_signals_iff b set clr).1 h p hp
  simp [levelOf_applyMasks, hset, hclr]

/-- Events take a line that two states agree on to the same level. -/
theorem levelOf_replay_congr (es : List Event) {v w : Word} {p : Line} (h : levelOf v p = levelOf w p) :
    levelOf (replay v es) p = levelOf (replay w es) p := by
  rcases levelOf_replay_cases es p with hkeep | ⟨x, hset⟩
  · rw [hkeep, hkeep, h]
  · rw [hset, hset]

/-! ## What a step keeps -/

section

variable {s t u : State}

theorem HostSide.schedule (h : HostSide s u) : ∀ m ∈ u.schedule, m ∈ s.schedule := by
  obtain ⟨_, _, _, _, _, _, hms, rfl⟩ := h
  exact hms

theorem TurnedAway.eq_of_held (h : TurnedAway s t) (hbusy : s.status.busy = false) (hfault : s.status.fault.isSome = true) :
    t = s := by
  cases h with
  | busy hbusy' => rw [hbusy] at hbusy'; cases hbusy'
  | held => rfl
  | rejected hquiet => rw [hquiet.2] at hfault; cases hfault

theorem not_begins_of_held (i : Instr) (hfault : s.status.fault.isSome = true) : ¬Begins i s := fun h => by
  rw [h.1.2] at hfault
  cases hfault

/-- A step of an idle block is no step. -/
theorem Advanced.eq_of_idle (h : Advanced s t) (hbusy : s.status.busy = false) : t = s := by
  cases h with
  | waits => rfl
  | pulse hbusy' | txGoesOn hbusy' | txEnds hbusy' | windowSent hbusy' | streamOpens hbusy' | pixelUnreadable hbusy'
  | pixelRead hbusy' | pixelGoesOn hbusy' | pixelEnds hbusy' => rw [hbusy] at hbusy'; cases hbusy'

/-- No step adds a move to the schedule. -/
theorem Stepped.schedule (h : Stepped s t) : ∀ m ∈ t.schedule, m ∈ s.schedule := by
  cases h with
  | advanced hu h =>
    obtain ⟨es, -, hemits⟩ := h.emits
    rw [hemits.schedule]
    exact hu.schedule
  | turnedAway hu h => rw [(Emits.turnedAway h).schedule]; exact hu.schedule
  | called hu v ms hcall i hdecode h =>
    obtain ⟨es, hemits, -⟩ := exec_emits (exec_of_begins h)
    rw [hemits.schedule]
    exact hu.schedule
  | hosted hu | started hu | reset hu | memory hu | otherAgent hu => exact hu.schedule

end

/-! ## The lines and the trace over a step -/

/-- How a step can change OUT and the trace: the block performs events, which an idle block does only when a whole request is
called and can start; another agent writes lines that are no signals; or a reset begins a new trace. -/
inductive TraceStep (s t : State) : Prop
  | events (es : List Event) (cfg : t.cfg = s.cfg) (out : t.out = replay s.out es) (trace : t.trace = s.trace ++ es)
      (startOut : t.startOut = s.startOut) (others : t.others = s.others)
      (idle : s.status.busy = false → callNext s = false ∨ s.status.fault.isSome = true → es = [])
  | otherAgent (set clr : Word) (mask : (set ||| clr) &&& signalMask s.config.pins = 0) (cfg : t.cfg = s.cfg)
      (out : t.out = applyMasks s.out set clr) (trace : t.trace = s.trace) (startOut : t.startOut = s.startOut)
      (others : t.others = s.others ++ [⟨s.trace.length, set, clr⟩])
  | reset (next : resetNext s = true) (cfg : t.cfg = s.cfg) (trace : t.trace = []) (startOut : t.startOut = t.out)
      (others : t.others = [])

theorem TraceStep.of_emits {s u t : State} {es : List Event} (hu : HostSide s u) (h : Emits es u t)
    (idle : s.status.busy = false → callNext s = false ∨ s.status.fault.isSome = true → es = []) : TraceStep s t := by
  obtain ⟨_, _, _, _, _, _, -, rfl⟩ := hu
  exact .events es h.cfg h.out h.trace h.startOut h.others idle

theorem step_traceStep {s t : State} (h : step s = .next t) : TraceStep s t := by
  cases step_cases h with
  | @advanced u _ hu h =>
    obtain ⟨es, -, hemits⟩ := h.emits
    refine .of_emits hu hemits fun hbusy _ => ?_
    have hkept : u.status.busy = false := by obtain ⟨_, _, _, _, _, _, -, rfl⟩ := hu; exact hbusy
    have htrace := hemits.trace
    rw [h.eq_of_idle hkept] at htrace
    simpa using htrace
  | hosted hu => exact .of_emits hu (Emits.refl _) fun _ _ => rfl
  | turnedAway hu h => exact .of_emits hu (Emits.turnedAway h) fun _ _ => rfl
  | started hu i h => exact .of_emits hu (Emits.begun i _) fun _ _ => rfl
  | called hu v ms hcall i hdecode hbegins =>
    obtain ⟨es, hemits, -⟩ := exec_emits (exec_of_begins hbegins)
    refine .of_emits hu hemits fun _ hidle => ?_
    obtain ⟨_, _, _, _, _, _, -, rfl⟩ := hu
    rcases hidle with hcalled | hfault
    · simp [callNext, hcall] at hcalled
    · exact absurd hbegins (not_begins_of_held i hfault)
  | reset hu hreset =>
    obtain ⟨_, _, _, _, _, _, -, rfl⟩ := hu
    exact .reset hreset rfl rfl rfl rfl
  | memory hu m =>
    obtain ⟨_, _, _, _, _, _, -, rfl⟩ := hu
    exact .events [] rfl rfl (List.append_nil _).symm rfl rfl fun _ _ => rfl
  | otherAgent hu set clr hmask =>
    obtain ⟨_, _, _, _, _, _, -, rfl⟩ := hu
    exact .otherAgent set clr hmask rfl rfl rfl rfl rfl

/-- A step that is no reset and lets an idle or faulted block be keeps the trace and the signal lines. -/
theorem step_silent {s t : State} (hbusy : s.status.busy = false)
    (hidle : callNext s = false ∨ s.status.fault.isSome = true) (hreset : resetNext s = false) (h : step s = .next t) :
    t.trace = s.trace ∧ t.out &&& signalMask s.config.pins = s.out &&& signalMask s.config.pins := by
  cases step_traceStep h with
  | events es _ hout htrace _ _ hnone =>
    obtain rfl := hnone hbusy hidle
    exact ⟨by simpa using htrace, by rw [hout]; rfl⟩
  | otherAgent set clr hmask _ hout htrace =>
    refine ⟨htrace, (masked_eq_iff s.cfg _ _).2 fun p hp => ?_⟩
    rw [hout]
    exact levelOf_applyMasks_of_miss hmask s.out hp
  | reset hnext => rw [hreset] at hnext; cases hnext

/-- Settles O36. -/
theorem idleBlockIsSilent : Obligations.IdleBlockIsSilent := fun _ _ hbusy hreset hcall h =>
  step_silent hbusy (.inl hcall) hreset h

/-- A step that is no reset keeps STATUS, the position and the latches of a block that holds a fault. -/
theorem step_keeps_held {s t : State} (hbusy : s.status.busy = false) (hfault : s.status.fault.isSome = true)
    (hreset : resetNext s = false) (h : step s = .next t) :
    t.status = s.status ∧ t.seq = s.seq ∧ t.latches = s.latches := by
  cases step_cases h with
  | advanced hu h =>
    obtain ⟨_, _, _, _, _, _, -, rfl⟩ := hu
    rw [h.eq_of_idle hbusy]
    exact ⟨rfl, rfl, rfl⟩
  | turnedAway hu h =>
    obtain ⟨_, _, _, _, _, _, -, rfl⟩ := hu
    rw [h.eq_of_held hbusy hfault]
    exact ⟨rfl, rfl, rfl⟩
  | started hu i hbegins | called hu _ _ _ i _ hbegins =>
    obtain ⟨_, _, _, _, _, _, -, rfl⟩ := hu
    exact absurd hbegins (not_begins_of_held i hfault)
  | reset _ hnext => rw [hreset] at hnext; cases hnext
  | hosted hu | memory hu | otherAgent hu => obtain ⟨_, _, _, _, _, _, -, rfl⟩ := hu; exact ⟨rfl, rfl, rfl⟩

/-- A write of `REQ0` to a block that holds a fault only stores. -/
theorem startRequest_of_held (v : Word) {s : State} (hbusy : s.status.busy = false) (hfault : s.status.fault.isSome = true) :
    startRequest v s = { s with req0 := v } := by
  rcases startRequest_cases v s with haway | ⟨i, hbegins, -⟩
  · exact haway.eq_of_held hbusy hfault
  · exact absurd hbegins (not_begins_of_held i hfault)

theorem afterReqWrite_of_idle {s : State} (hbusy : s.status.busy = false) : afterReqWrite s = s := by
  simp [afterReqWrite, hbusy]

/-- Settles O39. -/
theorem heldFaultStaysUntilReset : Obligations.HeldFaultStaysUntilReset := fun s hbusy hfault => by
  refine ⟨fun t hreset h => ?kept, fun v => ⟨startRequest_of_held v hbusy hfault, ?_, ?_, ?_⟩⟩
  case kept =>
    obtain ⟨hstatus, hseq, hlatches⟩ := step_keeps_held hbusy hfault hreset h
    obtain ⟨htrace, hout⟩ := step_silent hbusy (.inr hfault) hreset h
    exact ⟨hstatus, hseq, htrace, hlatches, hout⟩
  all_goals exact afterReqWrite_of_idle hbusy

/-! ## INIT_DONE -/

/-- A step of the block lowers `INIT_DONE` never, and raises it by completing BEGIN. -/
theorem Advanced.initDone {s t : State} (h : Advanced s t) : t.status.initDone = s.status.initDone ∨
    (t.status = s.status.finishInit ∧ t.seq = .idle ∧ ∃ p, s.status.busy = true ∧ s.seq = .bOn p) := by
  rcases h.status with h | h | h | ⟨p, hbusy, hseq, hstatus, hidle⟩
  · exact .inl (by rw [h])
  · exact .inl (by rw [h]; rfl)
  · exact .inl (by rw [h]; rfl)
  · exact .inr ⟨hstatus, hidle, p, hbusy, hseq⟩

/-- Settles O35. `INIT_DONE` is moved by the end of BEGIN, event by event or whole, and by a reset. -/
theorem initDoneRisesByBeginAndFallsByReset : Obligations.InitDoneRisesByBeginAndFallsByReset := fun s t h => by
  have kept (hkept : t.status.initDone = s.status.initDone) {P : Prop} :
      (s.status.initDone = true → resetNext s = false → t.status.initDone = true) ∧
      (s.status.initDone = false → t.status.initDone = true → P) :=
    ⟨fun hinit _ => hkept.trans hinit, fun hinit hdone => absurd (hinit.symm.trans (hkept.symm.trans hdone)) Bool.false_ne_true⟩
  cases step_cases h with
  | advanced hu h =>
    obtain ⟨_, _, _, _, _, _, -, rfl⟩ := hu
    rcases h.initDone with hkept | ⟨hstatus, hidle, hlast⟩
    · exact kept hkept
    · rw [hstatus]
      exact ⟨fun _ _ => rfl, fun _ _ => ⟨rfl, rfl, hidle, .inl hlast⟩⟩
  | turnedAway hu h =>
    obtain ⟨_, _, _, _, _, _, -, rfl⟩ := hu
    exact kept h.keeps.1
  | called hu v ms hcall i hdecode h =>
    obtain ⟨_, _, _, _, _, _, -, rfl⟩ := hu
    by_cases hi : i = .begin
    · subst hi
      rw [bodyOf_begin]
      exact ⟨fun _ _ => rfl, fun _ _ => ⟨rfl, rfl, rfl, .inr ⟨v, ms, hcall, hdecode⟩⟩⟩
    · exact kept (bodyOf_initDone hi _)
  | reset _ hreset => exact ⟨fun _ hnext => absurd (hreset.symm.trans hnext) nofun, fun _ hdone => nomatch hdone⟩
  | hosted hu | started hu | memory hu | otherAgent hu => obtain ⟨_, _, _, _, _, _, -, rfl⟩ := hu; exact kept rfl

/-! ## A fault is final until a reset, and so the state is not -/

theorem Status.raise_isSome (c : FaultCode) (t : Status) : (t.raise c).fault.isSome = true := by
  simp [Status.raise]

/-- No step but a reset clears a fault, whatever the block is doing. -/
theorem step_keeps_fault {s t : State} (hfault : s.status.fault.isSome = true) (hreset : resetNext s = false)
    (h : step s = .next t) : t.status.fault.isSome = true := by
  cases step_cases h with
  | advanced hu h =>
    obtain ⟨_, _, _, _, _, _, -, rfl⟩ := hu
    rcases h.status with h | h | h | ⟨_, _, _, h, _⟩
    · rw [h]; exact hfault
    · rw [h]; exact hfault
    · rw [h]; exact Status.raise_isSome _ _
    · rw [h]; exact hfault
  | turnedAway hu h =>
    obtain ⟨_, _, _, _, _, _, -, rfl⟩ := hu
    cases h with
    | busy | rejected => exact Status.raise_isSome _ _
    | held => exact hfault
  | started hu i hbegins | called hu _ _ _ i _ hbegins =>
    obtain ⟨_, _, _, _, _, _, -, rfl⟩ := hu
    exact absurd hbegins (not_begins_of_held i hfault)
  | reset _ hnext => rw [hreset] at hnext; cases hnext
  | hosted hu | memory hu | otherAgent hu => obtain ⟨_, _, _, _, _, _, -, rfl⟩ := hu; exact hfault

theorem resetNext_of_noReset {s : State} (h : ∀ m ∈ s.schedule, isReset m = false) : resetNext s = false := by
  unfold resetNext
  cases hs : s.schedule with
  | nil => rfl
  | cons m ms => exact h m (hs ▸ List.mem_cons_self)

section

variable {M : Host.Core} {k : Nat} {s t u : M.State}

theorem run_succ_of_next (h : M.step s = .next u) : M.run (k + 1) s = M.run k u := by
  simp only [Host.Core.run, h]

/-- A run of `k + 1` steps that answers a next state is a step and a run of `k`. -/
theorem run_succ_eq_next (h : M.run (k + 1) s = .next t) : ∃ u, M.step s = .next u ∧ M.run k u = .next t := by
  simp only [Host.Core.run] at h
  split at h
  · exact ⟨_, ‹_›, h⟩
  · cases h
  · cases h

end

theorem run_keeps_fault (k : Nat) {s t : State} (hfault : s.status.fault.isSome = true)
    (hschedule : ∀ m ∈ s.schedule, isReset m = false) (h : Sys2Proof.core.run k s = .next t) :
    t.status.fault.isSome = true := by
  induction k generalizing s with
  | zero => cases h; exact hfault
  | succ k ih =>
    obtain ⟨u, hstep, hrun⟩ := run_succ_eq_next h
    exact ih (step_keeps_fault hfault (resetNext_of_noReset hschedule) hstep)
      (fun m hm => hschedule m ((step_cases hstep).schedule m hm)) hrun

theorem not_final_of_fault {s : State} (h : s.status.fault.isSome = true) : isFinal s = false ∧ observation s = none := by
  have hfinal : isFinal s = false := by cases hf : s.status.fault <;> simp_all [isFinal]
  exact ⟨hfinal, by rw [observation, hfinal]; rfl⟩

/-- Settles O58. -/
theorem faultedStateIsNeverFinal : Obligations.FaultedStateIsNeverFinal := by
  refine ⟨fun s hfault => ⟨(not_final_of_fault hfault).1, (not_final_of_fault hfault).2,
    fun t hreset h => not_final_of_fault (step_keeps_fault hfault hreset h),
    fun k t hschedule h => not_final_of_fault (run_keeps_fault k hfault hschedule h)⟩, fun s ⟨hbusy, hfault⟩ => ?_⟩
  have hfinal : isFinal s = true := by simp [isFinal, hbusy, hfault]
  exact ⟨hfinal, if_pos hfinal⟩

/-! ## The trace explains the signal lines -/

theorem traceExplainsLines_iff (s : State) : traceExplainsLines s = true ↔
    ∀ p ∈ signalLines s.config.pins, levelOf (replay s.startOut s.trace) p = levelOf s.out p := by
  rw [traceExplainsLines, beq_iff_eq]
  exact masked_eq_iff s.cfg _ _

/-- Settles O57. Events are replayed, another agent's write moves no signal line, and a reset begins the trace anew at OUT. -/
theorem stepKeepsTheTraceExplainingTheLines : Obligations.StepKeepsTheTraceExplainingTheLines := fun s t hinv h => by
  rw [traceExplainsLines_iff] at hinv ⊢
  cases step_traceStep h with
  | events es hcfg hout htrace hstart =>
    rw [hstart, htrace, hout, State.config, hcfg, replay_append]
    exact fun p hp => levelOf_replay_congr es (hinv p hp)
  | otherAgent set clr hmask hcfg hout htrace hstart =>
    rw [hstart, htrace, hout, State.config, hcfg]
    exact fun p hp => (hinv p hp).trans (levelOf_applyMasks_of_miss hmask s.out hp).symm
  | reset _ _ htrace hstart =>
    rw [htrace, hstart]
    exact fun _ _ => rfl

/-! ## The history explains OUT -/

theorem historyExplainsOut_iff (s : State) : historyExplainsOut s = true ↔
    (∀ w ∈ s.others, w.index ≤ s.trace.length) ∧ endOut s.others 0 s.startOut s.trace = s.out := by
  simp [historyExplainsOut]

theorem othersAt_append (ow ow' : List OtherWrite) (k : Nat) (v : Word) :
    othersAt (ow ++ ow') k v = othersAt ow' k (othersAt ow k v) := List.foldl_append

/-- Writes that fell elsewhere change nothing here. -/
theorem othersAt_of_ne {ow : List OtherWrite} {k : Nat} (h : ∀ w ∈ ow, w.index ≠ k) (v : Word) : othersAt ow k v = v := by
  induction ow with
  | nil => rfl
  | cons w ow ih =>
    rw [List.forall_mem_cons] at h
    simp only [othersAt, List.foldl_cons, if_neg h.1]
    exact ih h.2

/-- A write after the last event changes OUT at the end, and no moment before. -/
theorem endOut_otherWrite (ow : List OtherWrite) (k : Nat) (v set clr : Word) (es : List Event) :
    endOut (ow ++ [⟨k + es.length, set, clr⟩]) k v es = applyMasks (endOut ow k v es) set clr := by
  induction es generalizing k v with
  | nil => simp [endOut, othersAt]
  | cons e es ih =>
    have hlater : ∀ w ∈ [OtherWrite.mk (k + (e :: es).length) set clr], w.index ≠ k := by simp
    have hindex : k + (e :: es).length = k + 1 + es.length := by rw [List.length_cons]; omega
    simp only [endOut, othersAt_append, othersAt_of_ne hlater]
    rw [hindex]
    exact ih _ _

theorem timeline_otherWrite (ow : List OtherWrite) (k : Nat) (v set clr : Word) (es : List Event) :
    timeline (ow ++ [⟨k + es.length, set, clr⟩]) k v es = timeline ow k v es := by
  induction es generalizing k v with
  | nil => rfl
  | cons e es ih =>
    have hlater : ∀ w ∈ [OtherWrite.mk (k + (e :: es).length) set clr], w.index ≠ k := by simp
    have hindex : k + (e :: es).length = k + 1 + es.length := by rw [List.length_cons]; omega
    simp only [timeline, othersAt_append, othersAt_of_ne hlater]
    rw [hindex, ih]

/-- A step with one event adds the moment of that event, with OUT around it as it really was. -/
theorem history_of_one_event {s t : State} {e : Event} (hinv : historyExplainsOut s = true) (h : step s = .next t)
    (htrace : t.trace = s.trace ++ [e]) :
    t.out = outAfter s.out e ∧ t.cfg = s.cfg ∧ t.startOut = s.startOut ∧ history t = history s ++ [⟨e, s.out, t.out⟩] := by
  obtain ⟨-, hend⟩ := (historyExplainsOut_iff s).1 hinv
  cases step_traceStep h with
  | events es hcfg hout htrace' hstart hothers =>
    obtain rfl : es = [e] := List.append_cancel_left (htrace'.symm.trans htrace)
    refine ⟨hout, hcfg, hstart, ?_⟩
    rw [history, hothers, hstart, htrace, timeline_append, hend, hout]
    rfl
  | otherAgent set clr _ _ _ htrace' => simp [htrace'] at htrace
  | reset _ _ htrace' => simp [htrace'] at htrace

/-- Settles O59. -/
theorem stepKeepsTheHistoryExplainingOut : Obligations.StepKeepsTheHistoryExplainingOut := fun s t hinv h => by
  obtain ⟨hindex, hend⟩ := (historyExplainsOut_iff s).1 hinv
  refine ⟨(historyExplainsOut_iff t).2 ?explained, fun e htrace => ?oneEvent, fun hreset htrace => ?noEvent⟩
  case explained =>
    cases step_traceStep h with
    | events es _ hout htrace hstart hothers =>
      rw [hothers, htrace, hstart, hout, endOut_append _ _ _ _ _ (by simpa using hindex), hend]
      exact ⟨fun w hw => (hindex w hw).trans (by simp), rfl⟩
    | otherAgent set clr _ _ hout htrace hstart hothers =>
      have hadded := endOut_otherWrite s.others 0 s.startOut set clr s.trace
      rw [Nat.zero_add, hend] at hadded
      rw [hothers, htrace, hstart, hout, List.forall_mem_append, List.forall_mem_singleton]
      exact ⟨⟨hindex, Nat.le_refl _⟩, hadded⟩
    | reset _ _ htrace hstart hothers =>
      rw [hothers, htrace, hstart]
      exact ⟨nofun, rfl⟩
  case oneEvent =>
    obtain ⟨-, -, -, hhistory⟩ := history_of_one_event hinv h htrace
    simp [outHistory, hhistory]
  case noEvent =>
    cases step_traceStep h with
    | events es _ _ _ hstart hothers => rw [outHistory, outHistory, history, history, hothers, hstart, htrace]
    | otherAgent set clr _ _ _ _ hstart hothers =>
      have hsame := timeline_otherWrite s.others 0 s.startOut set clr s.trace
      rw [Nat.zero_add] at hsame
      rw [outHistory, outHistory, history, history, hothers, hstart, htrace, hsame]
    | reset hnext => rw [hreset] at hnext; cases hnext

/-! ## Events that change no line -/

/-- An event that changes no line latches nothing. -/
theorem latched_cons_of_noChange (pins : Pins) (v : Word) (e : Event) (es : List Event) (h : outAfter v e = v) :
    latched pins v (e :: es) = latched pins v es := by
  rw [latched_cons_of_not_rise _ _ _ _ (by simp [h]), h]

/-- The writes that fell after `k + 1` events are, each taken an event earlier, those that fell after `k`. -/
theorem othersAt_earlier {late : List OtherWrite} (h : ∀ w ∈ late, 0 < w.index) (k : Nat) (v : Word) :
    othersAt (late.map fun w => { w with index := w.index - 1 }) k v = othersAt late (k + 1) v := by
  induction late generalizing v with
  | nil => rfl
  | cons w late ih =>
    rw [List.forall_mem_cons] at h
    have hindex : w.index - 1 = k ↔ w.index = k + 1 := by omega
    simp only [othersAt, List.map_cons, List.foldl_cons, hindex]
    exact ih h.2 _

/-- With one event less before them, the moments after it are the same: no other agent's write falls between. -/
theorem timeline_earlier {early late : List OtherWrite} {k : Nat} (hearly : ∀ w ∈ early, w.index < k)
    (hlate : ∀ w ∈ late, 0 < w.index) (v : Word) (es : List Event) : timeline (early ++ late) (k + 1) v es =
      timeline (early ++ late.map fun w => { w with index := w.index - 1 }) k v es := by
  induction es generalizing k v with
  | nil => rfl
  | cons e es ih =>
    have hhere : othersAt (early ++ late) (k + 1) v =
        othersAt (early ++ late.map fun w => { w with index := w.index - 1 }) k v := by
      rw [othersAt_append, othersAt_append, othersAt_of_ne fun w hw => Nat.ne_of_lt (Nat.lt_succ_of_lt (hearly w hw)),
        othersAt_of_ne fun w hw => Nat.ne_of_lt (hearly w hw), othersAt_earlier hlate]
    simp only [timeline, hhere]
    rw [ih fun w hw => Nat.lt_succ_of_lt (hearly w hw)]

/-- An event that changes no line shows nothing among other agents' writes either. -/
theorem samples_timeline_of_noChange {early late : List OtherWrite} {e : Event} (hdelay : ∀ n, e ≠ .delay n)
    (before after : List Event) {k : Nat} {v : Word} (hearly : ∀ w ∈ early, w.index ≤ k + before.length)
    (hlate : ∀ w ∈ late, k + before.length < w.index)
    (hsame : outAfter (endOut early k v before) e = endOut early k v before) :
    samples (timeline (early ++ late) k v (before ++ e :: after)) =
      samples (timeline (early ++ late.map fun w => { w with index := w.index - 1 }) k v (before ++ after)) := by
  induction before generalizing k v with
  | nil =>
    simp only [List.length_nil, Nat.add_zero] at hearly hlate
    simp only [endOut] at hsame
    have hhere : othersAt (early ++ late) k v = othersAt early k v := by
      rw [othersAt_append, othersAt_of_ne fun w hw => Nat.ne_of_gt (hlate w hw)]
    simp only [List.nil_append, timeline, hhere, hsame, samples, List.filterMap_cons, shown_noChange e _ hdelay]
    cases after with
    | nil => rfl
    | cons a after =>
      have hnext : othersAt (early ++ late) (k + 1) (othersAt early k v) =
          othersAt (early ++ late.map fun w => { w with index := w.index - 1 }) k v := by
        rw [othersAt_append, othersAt_append, othersAt_of_ne fun w hw => Nat.ne_of_lt (Nat.lt_succ_of_le (hearly w hw)),
          othersAt_earlier fun w hw => Nat.zero_lt_of_lt (hlate w hw)]
      simp only [timeline, hnext]
      rw [timeline_earlier (fun w hw => Nat.lt_succ_of_le (hearly w hw)) fun w hw => Nat.zero_lt_of_lt (hlate w hw)]
  | cons d before ih =>
    have hlength : k + (d :: before).length = k + 1 + before.length := by rw [List.length_cons]; omega
    rw [hlength] at hearly hlate
    have hlater (j : Nat) (hj : j ≤ k + 1) (x : Word) : othersAt late j x = x :=
      othersAt_of_ne (fun w hw h => by have := hlate w hw; omega) x
    have hstart : othersAt (early ++ late) k v = othersAt early k v := by
      rw [othersAt_append, hlater k (Nat.le_succ k)]
    have hhere : othersAt (early ++ late) k v =
        othersAt (early ++ late.map fun w => { w with index := w.index - 1 }) k v := by
      rw [hstart, othersAt_append, othersAt_earlier fun w hw => Nat.zero_lt_of_lt (hlate w hw),
        hlater (k + 1) (Nat.le_refl _)]
    have hrest := ih hearly hlate (by simpa [endOut] using hsame)
    rw [← hstart] at hrest
    rw [samples, samples] at hrest
    simp only [List.cons_append, timeline, ← hhere, samples, List.filterMap_cons, hrest]

/-- The same in a trace no other agent writes into (10_state.md R49). -/
theorem waveform_of_noChange {e : Event} (hdelay : ∀ n, e ≠ .delay n) (v : Word) (before after : List Event)
    (hsame : outAfter (replay v before) e = replay v before) :
    waveform v (before ++ e :: after) = waveform v (before ++ after) :=
  samples_timeline_of_noChange (early := []) (late := []) hdelay before after nofun nofun (by rwa [endOut_nil])

theorem latched_of_noChange (pins : Pins) {e : Event} (v : Word) (before after : List Event)
    (hsame : outAfter (replay v before) e = replay v before) :
    latched pins v (before ++ e :: after) = latched pins v (before ++ after) := by
  rw [latched_append, latched_append, latched_cons_of_noChange _ _ _ _ hsame]

/-- Settles O48. -/
theorem noChangeWritesAreUnobservable : Obligations.NoChangeWritesAreUnobservable := by
  refine ⟨fun pins v before after e hdelay hsame =>
      ⟨waveform_of_noChange hdelay v before after hsame, latched_of_noChange pins v before after hsame⟩,
    fun early late v before after e hdelay hearly hlate hsame => ?amongOthers,
    fun s t e hhistory hlines hstep htrace => ?oneStep⟩
  case amongOthers =>
    exact samples_timeline_of_noChange hdelay before after (by simpa using hearly) (by simpa using hlate) hsame
  case oneStep =>
    obtain ⟨hout, hcfg, hstart, hmoments⟩ := history_of_one_event hhistory hstep htrace
    have hsamples : (seenSoFar t).1 = (seenSoFar s).1 ++ samples [⟨e, s.out, t.out⟩] := by
      simp only [seenSoFar, hmoments, samples_append]
    refine ⟨fun n hn => ?delay, fun hdelay hsame => ?unseen, fun hdelay hchange => ?seen⟩
    case delay =>
      subst hn
      exact hsamples
    case seen =>
      rw [hsamples, samples, List.filterMap_cons, shown_change e _ _ hdelay hchange]
      rfl
    case unseen =>
      have hnone : samples [⟨e, s.out, t.out⟩] = [] := by
        rw [hsame, samples, List.filterMap_cons, shown_noChange e _ hdelay]
        rfl
      have hwr := (traceExplainsLines_iff s).1 hlines s.config.pins.wr (by simp [signalLines])
      have hwr' : levelOf (outAfter (replay s.startOut s.trace) e) s.config.pins.wr =
          levelOf (replay s.startOut s.trace) s.config.pins.wr := by
        have hmoved : levelOf (outAfter (replay s.startOut s.trace) e) s.config.pins.wr = levelOf (outAfter s.out e) _ :=
          levelOf_replay_congr [e] hwr
        rw [hmoved, ← hout, hsame, hwr]
      refine Prod.ext (by rw [hsamples, hnone, List.append_nil]) ?_
      simp only [seenSoFar, State.config, hcfg, hstart, htrace, latched_append]
      rw [latched_cons_of_not_rise _ _ _ _ (by rw [State.config] at hwr'; rw [hwr']; simp)]
      exact List.append_nil _

end Sys2Proof.Machine
end

section
/-! The statements about the sequencer's position: every step keeps it (10_state.md R45; 60_exceptions.md R252), and no step loses
it (notes/assumptions/25.md). -/

namespace Sys2Proof.Machine

/-! ## Where the position can stand -/

theorem SeqInv_iff (s : State) : SeqInv s = true ↔ positionFits s = true ∧
    s.status.fault.isSome = decide (s.seq = .faulted) ∧ s.faultAt.isSome = s.status.fault.isSome ∧ Memory.wf s.fb = true := by
  simp only [SeqInv, Bool.and_eq_true, beq_iff_eq, and_assoc]

/-- Nothing the host does beside the block's own registers touches the invariant. -/
theorem HostSide.seqInv {s u : State} (hu : HostSide s u) (h : SeqInv s = true) : SeqInv u = true := by
  obtain ⟨_, _, _, _, _, _, -, rfl⟩ := hu
  exact h

section

variable {s : State}

/-- No fault is held and none recorded while a request is in progress. -/
theorem noFault_of_busy (h : SeqInv s = true) (hbusy : s.status.busy = true) :
    s.status.fault = none ∧ s.faultAt = none := by
  obtain ⟨hpos, hfault, hplace, -⟩ := (SeqInv_iff s).1 h
  have hseq : s.seq ≠ .faulted := fun hseq => by simp [positionFits, hseq, hbusy] at hpos
  rw [decide_eq_false hseq] at hfault
  rw [hfault] at hplace
  exact ⟨Option.isSome_eq_false_iff.1 hfault |> Option.isNone_iff_eq_none.1,
    Option.isSome_eq_false_iff.1 hplace |> Option.isNone_iff_eq_none.1⟩

/-- None is recorded at a quiet block. -/
theorem faultAt_of_quiet (h : SeqInv s = true) (hquiet : Quiet s) : s.faultAt = none := by
  obtain ⟨-, -, hplace, -⟩ := (SeqInv_iff s).1 h
  rw [hquiet.2] at hplace
  exact Option.isNone_iff_eq_none.1 (Option.isSome_eq_false_iff.1 hplace)

/-- A state without a fault, outside the faulted position, meets the invariant where its position fits. -/
theorem seqInv_of_noFault (hfault : s.status.fault = none) (hplace : s.faultAt = none) (hwf : Memory.wf s.fb = true)
    (hpos : positionFits s = true) (hseq : s.seq ≠ .faulted) : SeqInv s = true :=
  (SeqInv_iff s).2 ⟨hpos, by simp [hfault, hseq], by simp [hfault, hplace], hwf⟩

theorem seqInv_complete (hfault : s.status.fault = none) (hplace : s.faultAt = none) (hwf : Memory.wf s.fb = true) :
    SeqInv (complete s) = true := seqInv_of_noFault hfault hplace hwf rfl nofun

theorem seqInv_completeInit (hfault : s.status.fault = none) (hplace : s.faultAt = none) (hwf : Memory.wf s.fb = true) :
    SeqInv (completeInit s) = true := seqInv_of_noFault hfault hplace hwf rfl nofun

/-- `raise` moves to the faulted position and records the place of the first fault. -/
theorem seqInv_raise (c : FaultCode) (hplace : s.faultAt.isSome = s.status.fault.isSome) (hwf : Memory.wf s.fb = true) :
    SeqInv (raise c s) = true := by
  refine (SeqInv_iff _).2 ⟨rfl, ?_, ?_, hwf⟩
  · exact Status.raise_isSome c s.status
  · cases hfault : s.status.fault <;> simp [Status.raise, hfault, hplace]

theorem goto_of_seq {q : Seq} (h : s.seq = q) : goto q s = s := by
  subst h
  rfl

end

/-! ## Along a transfer -/

theorem coreFits_afterClr (c : Config) : coreFits c (afterClr c) = true := by
  unfold afterClr
  split
  · rfl
  · exact decide_eq_true (by omega)

theorem coreFits_nextCore {c : Config} {p q : CorePhase} (h : nextCore c p = some q) : coreFits c q = true := by
  cases p with
  | set => cases h; rfl
  | clr => cases h; exact coreFits_afterClr c
  | padl k =>
    cases h
    by_cases hk : k + 1 < c.nopLow <;> simp [coreFits, hk]
  | wr =>
    simp only [nextCore, afterWr] at h
    split at h
    · cases h
    · cases h; exact decide_eq_true (by omega)
  | padh k =>
    simp only [nextCore] at h
    split at h
    · cases h; exact decide_eq_true ‹_›
    · cases h

theorem txFits_nextTx {c : Config} {p q : TxPhase} (h : nextTx c p = some q) : txFits c q = true := by
  cases p with
  | dc => cases h; rfl
  | core p =>
    obtain ⟨r, hr, rfl⟩ := Option.map_eq_some_iff.1 h
    exact coreFits_nextCore hr

/-- The sub-phases of one transfer fit alike. -/
theorem positionFits_transferAt {s : State} {at_ : TxPhase → Seq} {x : ByteTx} {fin : State → State}
    (hat : TransferAt s at_ x fin) (p : TxPhase) {q : TxPhase} (h : positionFits (goto (at_ p) s) = true)
    (hq : txFits s.config q = true) : positionFits (goto (at_ q) s) = true := by
  cases hat <;> exact Bool.and_eq_true_iff.2 ⟨(Bool.and_eq_true_iff.1 h).1, hq⟩

/-- `INIT_SEQ` has transfers: its two gamma groups are there. -/
theorem length_initTxs_pos (c : Config) : 0 < (initTxs c).length := by
  rw [length_initTxs, initGroups]
  simp only [List.length_cons]
  omega

/-! ## Every step keeps the invariant -/

/-- What a transfer's end goes on to fits: the next transfer of the list, the position after the last, or the end. -/
theorem seqInv_transferAt_fin {s : State} {at_ : TxPhase → Seq} {x : ByteTx} {fin : State → State} {p : TxPhase}
    (hat : TransferAt s at_ x fin) (hpos : positionFits (goto (at_ p) s) = true) (hfault : s.status.fault = none)
    (hplace : s.faultAt = none) (hwf : Memory.wf s.fb = true) (es : List Event) :
    SeqInv (fin (performEvents es s)) = true := by
  have moved {q : Seq} (hq : q ≠ .faulted) (h : positionFits (goto q s) = true) :
      SeqInv (goto q (performEvents es s)) = true := seqInv_of_noFault hfault hplace hwf h hq
  cases hat with
  | request => exact seqInv_complete hfault hplace hwf
  | displayOn => exact seqInv_completeInit hfault hplace hwf
  | sleepExit => exact moved nofun (Bool.and_eq_true_iff.1 hpos).1
  | initSeq =>
    simp only [positionFits, goto_seq, Bool.and_eq_true, decide_eq_true_eq] at hpos
    obtain ⟨⟨hbegins, -⟩, -⟩ := hpos
    dsimp only
    split <;> refine moved nofun ?_ <;> simp only [positionFits, goto_seq, Bool.and_eq_true, decide_eq_true_eq]
    case isTrue hlt => exact ⟨⟨hbegins, hlt⟩, rfl⟩
    case isFalse => exact ⟨hbegins, rfl⟩
  | window | renderWindow =>
    simp only [positionFits, goto_seq, Bool.and_eq_true, decide_eq_true_eq] at hpos
    obtain ⟨⟨hwindows, -⟩, -⟩ := hpos
    dsimp only
    split <;> refine moved nofun ?_ <;> simp only [positionFits, goto_seq, Bool.and_eq_true, decide_eq_true_eq]
    case isTrue hlt => exact ⟨⟨hwindows, hlt⟩, rfl⟩
    case isFalse => exact hwindows

/-- After a pixel, or as the stream opens, the next read fits while pixels are owed. -/
theorem seqInv_nextPixel {s : State} (hfault : s.status.fault = none) (hplace : s.faultAt = none)
    (hwf : Memory.wf s.fb = true) (hserving : serving s 3 = true) (hinit : s.status.initDone = true)
    (hwindow : windowChecked s.latches = true) (htotal : s.total = pixelCount s.latches) :
    SeqInv (nextPixel s) = true := by
  unfold nextPixel
  split
  case isTrue hlt =>
    refine seqInv_of_noFault hfault hplace hwf ?_ nofun
    simp only [positionFits, goto_seq, Bool.and_eq_true, decide_eq_true_eq, beq_iff_eq]
    exact ⟨⟨⟨⟨⟨hserving, hinit⟩, hwindow⟩, hlt⟩, htotal⟩, rfl⟩
  case isFalse => exact seqInv_complete hfault hplace hwf

/-- A step of the block keeps the invariant, position by position. -/
theorem Advanced.seqInv {s t : State} (h : Advanced s t) (hinv : SeqInv s = true) : SeqInv t = true := by
  cases hb : s.status.busy with
  | false => rwa [h.eq_of_idle hb]
  | true =>
    obtain ⟨hfault, hplace⟩ := noFault_of_busy hinv hb
    obtain ⟨hpos, -, -, hwf⟩ := (SeqInv_iff s).1 hinv
    have at_seq {q : Seq} (hseq : s.seq = q) : positionFits (goto q s) = true := by rwa [goto_of_seq hseq]
    have moved {q : Seq} (es : List Event) (hq : q ≠ .faulted) (h : positionFits (goto q s) = true) :
        SeqInv (goto q (performEvents es s)) = true := seqInv_of_noFault hfault hplace hwf h hq
    cases h with
    | waits => exact hinv
    | pulse _ hseq hstep =>
      have hq := at_seq hseq
      cases hstep with
      | wrHigh | rstHigh | waitPre | rstLow | waitLow | rstHighAgain => exact moved _ nofun hq
      | waitPost =>
        refine moved _ nofun ?_
        simp only [positionFits, goto_seq, Bool.and_eq_true, decide_eq_true_eq] at hq ⊢
        exact ⟨⟨hq, length_initTxs_pos _⟩, rfl⟩
      | waitSleepExit => exact moved _ nofun (Bool.and_eq_true_iff.2 ⟨hq, rfl⟩)
    | txGoesOn _ hat hseq hnext =>
      refine moved _ ?_ (positionFits_transferAt hat _ (at_seq hseq) (txFits_nextTx hnext))
      cases hat <;> nofun
    | txEnds _ hat hseq => exact seqInv_transferAt_fin hat (at_seq hseq) hfault hplace hwf _
    | windowSent => exact seqInv_complete hfault hplace hwf
    | streamOpens _ hseq =>
      have hq := at_seq hseq
      simp only [positionFits, goto_seq, Bool.and_eq_true] at hq
      obtain ⟨⟨hserving, hinit⟩, hwindow⟩ := hq
      exact seqInv_nextPixel hfault hplace hwf hserving hinit hwindow rfl
    | pixelUnreadable => exact seqInv_raise _ (by rw [hfault, hplace]; rfl) hwf
    | pixelRead _ hseq =>
      have hq := at_seq hseq
      simp only [positionFits, goto_seq, Bool.and_eq_true, beq_iff_eq] at hq
      obtain ⟨hstreams, -⟩ := hq
      refine seqInv_of_noFault hfault hplace hwf ?_ nofun
      simp only [positionFits, goto_seq, Bool.and_eq_true, beq_iff_eq]
      exact ⟨⟨hstreams, rfl⟩, rfl⟩
    | pixelGoesOn _ hseq hnext =>
      exact moved _ nofun (Bool.and_eq_true_iff.2 ⟨(Bool.and_eq_true_iff.1 (at_seq hseq)).1, coreFits_nextCore hnext⟩)
    | pixelEnds _ hseq =>
      have hq := at_seq hseq
      simp only [positionFits, goto_seq, Bool.and_eq_true, beq_iff_eq] at hq
      obtain ⟨⟨⟨⟨⟨⟨hserving, hinit⟩, hwindow⟩, -⟩, htotal⟩, -⟩, -⟩ := hq
      exact seqInv_nextPixel hfault hplace hwf hserving hinit hwindow htotal

theorem begun_seq (i : Instr) (s : State) : (begun i s).seq = firstPhase i := rfl

/-- A request that begins stands at its first phase, which fits. -/
theorem positionFits_begun {i : Instr} {s : State} (h : Begins i s) : positionFits (begun i s) = true := by
  have hbusy (op : BitVec 4) (hop : opOf i = op) : serving (begun i s) op = true := by
    have hlatch : (latchRequest i s.descriptor).op = opOf i := by cases i <;> rfl
    simp [serving, begun, latching, Status.start, hlatch, hop]
  cases i with
  | begin =>
    obtain ⟨-, hinit⟩ := (begins_begin_iff s).1 h
    exact Bool.and_eq_true_iff.2 ⟨hbusy 1 rfl, congrArg (!·) hinit⟩
  | setwin x0 y0 x1 y1 =>
    obtain ⟨⟨-, hinit⟩, hwindow⟩ := (begins_setwin_iff _ _ _ _ s).1 h
    simp only [positionFits, begun_seq, firstPhase, Bool.and_eq_true]
    exact ⟨⟨⟨⟨hbusy 2 rfl, hinit⟩, (windowChecked_iff _).2 hwindow⟩, rfl⟩, rfl⟩
  | render x0 y0 x1 y1 buf =>
    obtain ⟨⟨-, hinit⟩, hwindow⟩ := (begins_render_iff _ _ _ _ _ s).1 h
    simp only [positionFits, begun_seq, firstPhase, Bool.and_eq_true]
    exact ⟨⟨⟨⟨hbusy 3 rfl, hinit⟩, (windowChecked_iff _).2 hwindow⟩, rfl⟩, rfl⟩
  | wrcmd b =>
    obtain ⟨-, hinit⟩ := (begins_wrcmd_iff b s).1 h
    simp only [positionFits, begun_seq, firstPhase, Bool.and_eq_true, Bool.or_eq_true]
    exact ⟨⟨.inl (hbusy 4 rfl), hinit⟩, rfl⟩
  | wrdata b =>
    obtain ⟨-, hinit⟩ := (begins_wrdata_iff b s).1 h
    simp only [positionFits, begun_seq, firstPhase, Bool.and_eq_true, Bool.or_eq_true]
    exact ⟨⟨.inr (hbusy 5 rfl), hinit⟩, rfl⟩

/-- A stream ends completed, or stopped at an unreadable pixel: both meet the invariant. -/
theorem seqInv_closeStream (k : Nat) {s : State} (hfault : s.status.fault = none) (hplace : s.faultAt = none)
    (hwf : Memory.wf s.fb = true) : SeqInv (closeStream (sendPixels k s)) = true := by
  induction k generalizing s with
  | zero => exact seqInv_complete hfault hplace hwf
  | succ k ih =>
    cases hread : readPixel s.fb s.latches s.sent with
    | none =>
      rw [sendPixels_of_unreadable k s hread]
      exact seqInv_raise (s := goto _ s) _ (by rw [goto_faultAt, goto_status, hfault, hplace]; rfl) hwf
    | some i =>
      simp only [sendPixels, sendPixel_of_read s i hread]
      exact ih hfault hplace hwf

theorem seqInv_bodyOf (i : Instr) {s : State} (hfault : s.status.fault = none) (hplace : s.faultAt = none)
    (hwf : Memory.wf s.fb = true) : SeqInv (bodyOf i s) = true := by
  cases i with
  | begin => rw [bodyOf_begin]; exact seqInv_completeInit hfault hplace hwf
  | setwin => rw [bodyOf_setwin]; exact seqInv_complete hfault hplace hwf
  | render =>
    refine (congrArg SeqInv (renderBody_eq_closeStream s)).trans ?_
    exact seqInv_closeStream _ hfault hplace hwf
  | wrcmd => rw [bodyOf_wrcmd]; exact seqInv_complete hfault hplace hwf
  | wrdata => rw [bodyOf_wrdata]; exact seqInv_complete hfault hplace hwf

theorem TurnedAway.seqInv {s t : State} (h : TurnedAway s t) (hinv : SeqInv s = true) : SeqInv t = true := by
  obtain ⟨-, -, hplace, hwf⟩ := (SeqInv_iff s).1 hinv
  cases h with
  | busy => exact seqInv_raise _ hplace hwf
  | held => exact hinv
  | rejected _ c l => exact seqInv_raise (s := { s with latches := l }) c hplace hwf

/-- Settles O53. -/
theorem stepKeepsThePositionInvariant : Obligations.StepKeepsThePositionInvariant := fun s t hinv h => by
  cases step_cases h with
  | advanced hu h => exact h.seqInv (hu.seqInv hinv)
  | hosted hu => exact hu.seqInv hinv
  | turnedAway hu h => exact h.seqInv (hu.seqInv hinv)
  | started hu i hbegins =>
    have hinv := hu.seqInv hinv
    obtain ⟨-, -, -, hwf⟩ := (SeqInv_iff _).1 hinv
    have hplace := faultAt_of_quiet hinv hbegins.1
    exact seqInv_of_noFault hbegins.1.2 hplace hwf (positionFits_begun hbegins) (by cases i <;> nofun)
  | called hu _ _ _ i _ hbegins =>
    have hinv := hu.seqInv hinv
    obtain ⟨-, -, -, hwf⟩ := (SeqInv_iff _).1 hinv
    have hplace := faultAt_of_quiet hinv hbegins.1
    exact seqInv_bodyOf i hbegins.1.2 hplace hwf
  | reset hu =>
    obtain ⟨-, -, -, hwf⟩ := (SeqInv_iff _).1 (hu.seqInv hinv)
    exact seqInv_of_noFault rfl rfl hwf rfl nofun
  | memory hu m hwf =>
    obtain ⟨_, _, _, _, _, _, -, rfl⟩ := hu
    obtain ⟨hpos, hfault, hplace, hold⟩ := (SeqInv_iff s).1 hinv
    exact (SeqInv_iff _).2 ⟨hpos, hfault, hplace, hwf hold⟩
  | otherAgent hu =>
    obtain ⟨_, _, _, _, _, _, -, rfl⟩ := hu
    exact hinv

/-! ## No step loses the sequencer -/

/-- A block whose position fits performs its next primitive: a list's transfer number is inside its list. -/
theorem advance_next {s : State} (h : SeqInv s = true) : ∃ t, advance s = .next t := by
  obtain ⟨hpos, -⟩ := (SeqInv_iff s).1 h
  cases hbusy : s.status.busy with
  | false => exact ⟨s, advance_of_idle hbusy⟩
  | true =>
    cases hseq : s.seq with
    | idle | faulted => simp [positionFits, hseq, hbusy] at hpos
    | tx p => exact ⟨_, advance_of_transferAt hbusy .request hseq⟩
    | bSlp p => exact ⟨_, advance_of_transferAt hbusy .sleepExit hseq⟩
    | bOn p => exact ⟨_, advance_of_transferAt hbusy .displayOn hseq⟩
    | bSeq j p =>
      simp only [positionFits, hseq, Bool.and_eq_true, decide_eq_true_eq] at hpos
      obtain ⟨⟨-, hj⟩, -⟩ := hpos
      exact ⟨_, advance_of_transferAt hbusy (.initSeq (List.getElem?_eq_getElem hj)) hseq⟩
    | wTx j p =>
      simp only [positionFits, hseq, Bool.and_eq_true, decide_eq_true_eq] at hpos
      obtain ⟨⟨-, hj⟩, -⟩ := hpos
      exact ⟨_, advance_of_transferAt hbusy (.window (List.getElem?_eq_getElem hj)) hseq⟩
    | rWinTx j p =>
      simp only [positionFits, hseq, Bool.and_eq_true, decide_eq_true_eq] at hpos
      obtain ⟨⟨-, hj⟩, -⟩ := hpos
      exact ⟨_, advance_of_transferAt hbusy (.renderWindow (List.getElem?_eq_getElem hj)) hseq⟩
    | bWr => exact ⟨_, advance_of_pulseStep hbusy hseq .wrHigh⟩
    | bRst => exact ⟨_, advance_of_pulseStep hbusy hseq .rstHigh⟩
    | bD1 => exact ⟨_, advance_of_pulseStep hbusy hseq .waitPre⟩
    | bRlo => exact ⟨_, advance_of_pulseStep hbusy hseq .rstLow⟩
    | bD2 => exact ⟨_, advance_of_pulseStep hbusy hseq .waitLow⟩
    | bRhi => exact ⟨_, advance_of_pulseStep hbusy hseq .rstHighAgain⟩
    | bD3 => exact ⟨_, advance_of_pulseStep hbusy hseq .waitPost⟩
    | bD4 => exact ⟨_, advance_of_pulseStep hbusy hseq .waitSleepExit⟩
    | wDc => exact ⟨_, advance_of_wDc hbusy hseq⟩
    | rWinDc => exact ⟨_, advance_of_rWinDc hbusy hseq⟩
    | rPix n p => exact ⟨_, advance_of_rPix hbusy hseq⟩
    | rRd n =>
      cases hread : readPixel s.fb s.latches s.sent with
      | none => exact ⟨_, advance_of_unreadable hbusy hseq hread⟩
      | some i => exact ⟨_, advance_of_readable hbusy hseq hread⟩

theorem accessOffset_error {s : State} {addr bytes : Nat} {r : Refusal} (h : accessOffset s addr bytes = .error r) :
    r = .notAlignedWord ∨ r = .outsideRegisterBlock := by
  simp only [accessOffset] at h
  split at h
  · cases h; exact .inr rfl
  · split at h
    · cases h; exact .inl rfl
    · cases h

/-- How a host move can be refused, each kind under its own names (10_state.md R41; 60_exceptions.md R262; 20_memory.md
R85). -/
def RefusedMove (r : Refusal) : HostMove → Prop
  | .read _ _ | .write _ _ _ => r = .notAlignedWord ∨ r = .outsideRegisterBlock
  | .provide _ _ | .withdraw _ => r = .bufferInUse
  | .otherAgent _ _ => r = .signalLineOwned
  | _ => False

/-- A host move at a block whose position fits answers a next state or is refused under its own names. -/
theorem hostMove_next_or_refused {s : State} (h : SeqInv s = true) (m : HostMove) :
    (∃ t, hostMove m s = .next t) ∨ ∃ r, hostMove m s = .refused r ∧ RefusedMove r m := by
  cases m with
  | wait => exact .inl (advance_next h)
  | waitIdle =>
    simp only [hostMove]
    split
    · exact .inl (advance_next (s := { s with schedule := .waitIdle :: s.schedule }) h)
    · exact .inl ⟨s, rfl⟩
  | read addr bytes =>
    simp only [hostMove, hostRead]
    split
    case h_1 r hoff => exact .inr ⟨r, rfl, accessOffset_error hoff⟩
    case h_2 => exact .inl ⟨_, rfl⟩
  | write addr bytes v =>
    simp only [hostMove, hostWrite]
    split
    case h_1 r hoff => exact .inr ⟨r, rfl, accessOffset_error hoff⟩
    case h_2 => exact .inl ⟨_, rfl⟩
  | call v =>
    simp only [hostMove, callRequest]
    split
    · exact .inl ⟨_, rfl⟩
    · exact .inl (exec_next _ _)
  | blockReset | powerOn => exact .inl ⟨_, rfl⟩
  | provide a v =>
    simp only [hostMove, provide]
    split
    · exact .inr ⟨_, rfl, rfl⟩
    · exact .inl ⟨_, rfl⟩
  | withdraw a =>
    simp only [hostMove, withdraw]
    split
    · exact .inr ⟨_, rfl, rfl⟩
    · exact .inl ⟨_, rfl⟩
  | otherAgent set clr =>
    simp only [hostMove, otherAgent]
    split
    · exact .inr ⟨_, rfl, rfl⟩
    · exact .inl ⟨_, rfl⟩

/-- Settles O54. -/
theorem stepNeverLosesTheSequencer : Obligations.StepNeverLosesTheSequencer := fun s hinv => by
  have hcases : (∃ t, step s = .next t) ∨ ∃ m ms r, s.schedule = m :: ms ∧ step s = .refused r ∧ RefusedMove r m := by
    cases hs : s.schedule with
    | nil =>
      rw [step_nil hs]
      exact .inl (advance_next hinv)
    | cons m ms =>
      rw [step_cons hs]
      exact (hostMove_next_or_refused (s := { s with schedule := ms }) hinv m).imp id
        fun ⟨r, hr, hname⟩ => ⟨m, ms, r, rfl, hr, hname⟩
  refine ⟨fun r hr => ?noFault, hcases.imp id fun ⟨m, ms, r, hs, hr, hname⟩ => ⟨m, ms, r, hs, hr, ?name⟩⟩
  case noFault =>
    rcases hcases with ⟨t, ht⟩ | ⟨_, _, _, -, hr', -⟩
    · exact nomatch ht.symm.trans hr
    · exact nomatch hr'.symm.trans hr
  case name => cases m <;> exact hname

end Sys2Proof.Machine
end

section
/-! The statement about the lines at each position (40_bus_primitive.md R141, R148; 43_pixel_stream.md R225;
70_reset_and_hazards.md R282, R293). -/

namespace Sys2Proof.Machine

/-! ## Along a transfer -/

section

variable (b : Board) (t : LutPair) (i : Byte) {v : Word} {p q : CorePhase}

/-- A transfer's steps move data lines and WR alone. -/
theorem coreEvents_leaveLine (p : CorePhase) {l : Line} (hd : l ∉ b.cfg.pins.d.toList) (hw : l ≠ b.cfg.pins.wr) :
    ∀ e ∈ coreEvents b.cfg t i p, LeavesLine l e := by
  obtain ⟨hset, hclr⟩ := b.levelOf_masks t i hd hw
  cases p with
  | set => exact List.forall_mem_singleton.2 (leavesLine_set hset)
  | clr => exact List.forall_mem_singleton.2 (leavesLine_clr hclr)
  | wr => exact List.forall_mem_singleton.2 (leavesLine_line _ hw)
  | padl | padh => nofun

/-- After the set write the clear write makes the lines those of the whole entry. -/
theorem applyMasks_of_set_high (h : v &&& lutRead b.cfg t.setTable i = lutRead b.cfg t.setTable i) :
    v &&& ~~~lutRead b.cfg t.clrTable i =
      applyMasks v (lutRead b.cfg t.setTable i) (lutRead b.cfg t.clrTable i) := by
  refine word_ext_level fun l => ?_
  have hl := congrArg (levelOf · l) h
  simp only [levelOf_and] at hl
  rw [levelOf_applyMasks, levelOf_and, levelOf_not, ← hl]
  cases levelOf v l <;> simp

/-- A step of a transfer leaves the levels the next sub-phase stands on. -/
theorem coreLevels_nextCore (h : coreLevels b.cfg t i (entryWord b.cfg t i) v p = true) (hnext : nextCore b.cfg p = some q) :
    coreLevels b.cfg t i (entryWord b.cfg t i) (replay v (coreEvents b.cfg t i p)) q = true := by
  obtain ⟨⟨-, hwr, -⟩, -⟩ := controlLines_distinct b.nodup
  cases p with
  | set =>
    cases hnext
    simp only [coreLevels, coreEvents, replay, outAfter, beq_iff_eq]
    exact word_ext_level fun l => by rw [levelOf_and, levelOf_or]; cases levelOf v l <;> simp
  | clr =>
    cases hnext
    simp only [coreLevels, beq_iff_eq] at h
    have hencodes := b.entry_encodes t i
    have hword := dataWord_applyMasks_of_encodes (dataLines_nodup b.nodup) hencodes v
    have hlow := levelOf_applyMasks_wr_of_encodes hencodes v
    simp only [coreEvents, replay, outAfter, applyMasks_of_set_high b t i h, afterClr]
    split <;> simp [coreLevels, hword, hlow]
  | padl k =>
    cases hnext
    simp only [coreEvents, replay]
    split <;> exact h
  | wr =>
    simp only [coreLevels, Bool.and_eq_true, beq_iff_eq] at h
    simp only [nextCore, afterWr] at hnext
    split at hnext
    · cases hnext
    · cases hnext
      simp [coreLevels, coreEvents, replay, outAfter, levelOf_withLine, dataWord_withLine hwr, h.1]
  | padh k =>
    simp only [nextCore] at hnext
    split at hnext
    · cases hnext; exact h
    · cases hnext

/-- A transfer ends with WR high. -/
theorem levelOf_wr_of_nextCore_none (h : coreLevels b.cfg t i (entryWord b.cfg t i) v p = true)
    (hnext : nextCore b.cfg p = none) : levelOf (replay v (coreEvents b.cfg t i p)) b.cfg.pins.wr = true := by
  cases p with
  | set | clr | padl => cases hnext
  | wr => simp [coreEvents, replay, outAfter, levelOf_withLine]
  | padh k =>
    simp only [coreLevels, Bool.and_eq_true] at h
    exact h.2

end

section

variable (b : Board) (x : ByteTx) {v : Word} {p q : TxPhase}

theorem txEvents_leaveLine (p : TxPhase) {l : Line} (hd : l ∉ b.cfg.pins.d.toList) (hw : l ≠ b.cfg.pins.wr)
    (hdc : l ≠ b.cfg.pins.dc) : ∀ e ∈ txEvents b.cfg x p, LeavesLine l e := by
  cases p with
  | dc => exact List.forall_mem_singleton.2 (leavesLine_line _ hdc)
  | core p => exact coreEvents_leaveLine b .command x.2 p hd hw

/-- As `coreLevels_nextCore`; the transfer leaves DC where its DC write put it. -/
theorem txLevels_nextTx (h : txLevels b.cfg x v p = true) (hnext : nextTx b.cfg p = some q) :
    txLevels b.cfg x (replay v (txEvents b.cfg x p)) q = true := by
  obtain ⟨⟨hd, -⟩, hw, -⟩ := controlLines_distinct b.nodup
  cases p with
  | dc =>
    cases hnext
    simp [txLevels, coreLevels, txEvents, replay, outAfter, levelOf_withLine]
  | core p =>
    obtain ⟨r, hr, rfl⟩ := Option.map_eq_some_iff.1 hnext
    simp only [txLevels, Bool.and_eq_true, beq_iff_eq] at h ⊢
    have hdc := levelOf_replay_of_leavesLine (coreEvents_leaveLine b .command x.2 p hd hw) v
    exact ⟨hdc.trans h.1, coreLevels_nextCore b .command x.2 h.2 hr⟩

theorem levelOf_wr_of_nextTx_none (h : txLevels b.cfg x v p = true) (hnext : nextTx b.cfg p = none) :
    levelOf (replay v (txEvents b.cfg x p)) b.cfg.pins.wr = true := by
  cases p with
  | dc => cases hnext
  | core p =>
    simp only [txLevels, Bool.and_eq_true] at h
    exact levelOf_wr_of_nextCore_none b .command x.2 h.2 (Option.map_eq_none_iff.1 hnext)

end

/-! ## The levels at a position -/

@[simp] theorem performEvents_status (es : List Event) (s : State) : (performEvents es s).status = s.status := rfl
@[simp] theorem performEvents_latches (es : List Event) (s : State) : (performEvents es s).latches = s.latches := rfl
@[simp] theorem performEvents_pixel (es : List Event) (s : State) : (performEvents es s).pixel = s.pixel := rfl

/-- RST is high while `INIT_DONE = 1` (70_reset_and_hazards.md R282). -/
def RstHeld (s : State) : Prop := s.status.initDone = true → levelOf s.out s.config.pins.rst = true

theorem rstHeld_of_levelsFit {s : State} (h : levelsFit s = true) : RstHeld s := fun hinit => by
  obtain ⟨hrst, -⟩ := Bool.and_eq_true_iff.1 h
  simpa [hinit] using hrst

/-- Positions that ask for no more than RST. -/
theorem levelsFit_of_rstHeld {s : State} (h : RstHeld s) (hseq : s.seq = .idle ∨ s.seq = .faulted ∨ s.seq = .bWr ∨ s.seq = .wDc) :
    levelsFit s = true := by
  have hrst : (!s.status.initDone || levelOf s.out s.config.pins.rst) = true := by
    cases hinit : s.status.initDone with
    | false => rfl
    | true => exact h hinit
  rcases hseq with hseq | hseq | hseq | hseq <;> simp [levelsFit, hrst, hseq]

section

variable {s : State} {at_ : TxPhase → Seq} {x : ByteTx} {fin : State → State}

/-- In a transfer RST is high, and the lines carry what the transfer has put there. -/
theorem levels_of_transferAt (hat : TransferAt s at_ x fin) {p : TxPhase} (hseq : s.seq = at_ p) (hinv : SeqInv s = true)
    (h : levelsFit s = true) :
    levelOf s.out s.config.pins.rst = true ∧ txLevels s.config x s.out p = true := by
  have hrst := rstHeld_of_levelsFit h
  obtain ⟨hpos, -⟩ := (SeqInv_iff s).1 hinv
  obtain ⟨-, hlevels⟩ := Bool.and_eq_true_iff.1 h
  cases hat with
  | request =>
    simp only [positionFits, hseq, Bool.and_eq_true] at hpos hlevels
    obtain ⟨⟨-, hinit⟩, -⟩ := hpos
    exact ⟨hrst hinit, hlevels⟩
  | initSeq hj | sleepExit | displayOn =>
    simp only [Bool.and_eq_true, *] at hlevels
    exact hlevels
  | window hj | renderWindow hj =>
    simp only [positionFits, hseq, Bool.and_eq_true] at hpos
    simp only [hseq, hj] at hlevels
    obtain ⟨⟨⟨⟨-, hinit⟩, -⟩, -⟩, -⟩ := hpos
    exact ⟨hrst hinit, hlevels⟩

/-- Conversely, that is all a position in a transfer asks for. -/
theorem levelsFit_goto_transferAt (hat : TransferAt s at_ x fin) {p : TxPhase} (es : List Event)
    (hrst : levelOf (replay s.out es) s.config.pins.rst = true) (h : txLevels s.config x (replay s.out es) p = true) :
    levelsFit (goto (at_ p) (performEvents es s)) = true := by
  cases hat with
  | request =>
    simp only [levelsFit, goto_status, goto_out, goto_config, goto_seq, performEvents_out, performEvents_config, hrst,
      Bool.or_true, Bool.true_and]
    exact h
  | sleepExit | displayOn => simp [levelsFit, hrst, h]
  | initSeq hj | window hj | renderWindow hj => simp [levelsFit, hrst, h, hj]

/-- As a transfer ends RST is high still, and so is WR: what follows asks for no more. -/
theorem levelsFit_transferAt_fin (hat : TransferAt s at_ x fin) (es : List Event)
    (hrst : levelOf (replay s.out es) s.config.pins.rst = true) (hwr : levelOf (replay s.out es) s.config.pins.wr = true) :
    levelsFit (fin (performEvents es s)) = true := by
  cases hat with
  | request => exact levelsFit_of_rstHeld (fun _ => hrst) (.inl rfl)
  | displayOn => exact levelsFit_of_rstHeld (fun _ => hrst) (.inl rfl)
  | sleepExit => simp [levelsFit, hrst]
  | initSeq | window | renderWindow =>
    dsimp only
    split
    · simp [levelsFit, txLevels, hrst]
    · simp [levelsFit, txLevels, hrst, hwr]

/-- As a pixel is counted, or the stream opens, DC and WR are high: what a read asks for. -/
theorem levelsFit_nextPixel (hrst : RstHeld s) (hdc : levelOf s.out s.config.pins.dc = true)
    (hwr : levelOf s.out s.config.pins.wr = true) : levelsFit (nextPixel s) = true := by
  unfold nextPixel
  split
  · have hheld : (!s.status.initDone || levelOf s.out s.config.pins.rst) = true := by
      cases hinit : s.status.initDone with
      | false => rfl
      | true => exact hrst hinit
    simp [levelsFit, hheld, hdc, hwr]
  · exact levelsFit_of_rstHeld hrst (.inl rfl)

/-- BEGIN's positions before `INIT_DONE`: each write leaves RST where the next position wants it. -/
theorem levelsFit_pulseStep {q q' : Seq} {e : Event} (hstep : PulseStep s.config q e q') (hseq : s.seq = q)
    (hinit : s.status.initDone = false) (h : levelsFit s = true) : levelsFit (goto q' (performEvents [e] s)) = true := by
  have hmoved (x : Bool) : levelOf (withLine s.out s.config.pins.rst x) s.config.pins.rst = x := by
    simp [levelOf_withLine]
  cases hstep with
  | wrHigh => simp [levelsFit, hinit]
  | rstHigh | rstHighAgain | rstLow => simp [levelsFit, hinit, replay, outAfter, hmoved]
  | waitPre | waitLow => simpa [levelsFit, hseq, hinit, replay, outAfter] using h
  | waitPost | waitSleepExit => simpa [levelsFit, hseq, hinit, replay, outAfter, txLevels] using h

/-- A step of the block keeps the levels, position by position. -/
theorem Advanced.levelsFit {t : State} (hstep : Advanced s t) (hinv : SeqInv s = true) (h : levelsFit s = true) :
    levelsFit t = true := by
  have hheld := rstHeld_of_levelsFit h
  obtain ⟨hpos, -⟩ := (SeqInv_iff s).1 hinv
  obtain ⟨⟨hdcd, -, hrstd, -⟩, hdcwr, hdcrst, -, -, hwrrst, -⟩ := controlLines_distinct s.cfg.nodup
  have hdcKeepsRst (v : Word) : levelOf (withLine v s.config.pins.dc true) s.config.pins.rst = levelOf v s.config.pins.rst :=
    leavesLine_line true hdcrst.symm v
  cases hstep with
  | waits => exact h
  | pulse _ hseq hpulse =>
    refine levelsFit_pulseStep hpulse hseq ?_ h
    cases hpulse <;> simp_all [positionFits]
  | txGoesOn _ hat hseq hnext =>
    obtain ⟨hrst, hlevels⟩ := levels_of_transferAt hat hseq hinv h
    refine levelsFit_goto_transferAt hat _ ?_ (txLevels_nextTx s.cfg _ hlevels hnext)
    exact (levelOf_replay_of_leavesLine (txEvents_leaveLine s.cfg _ _ hrstd hwrrst.symm hdcrst.symm) s.out).trans hrst
  | txEnds _ hat hseq hnext =>
    obtain ⟨hrst, hlevels⟩ := levels_of_transferAt hat hseq hinv h
    refine levelsFit_transferAt_fin hat _ ?_ (levelOf_wr_of_nextTx_none s.cfg _ hlevels hnext)
    exact (levelOf_replay_of_leavesLine (txEvents_leaveLine s.cfg _ _ hrstd hwrrst.symm hdcrst.symm) s.out).trans hrst
  | windowSent => exact levelsFit_of_rstHeld (fun hinit => (hdcKeepsRst s.out).trans (hheld hinit)) (.inl rfl)
  | streamOpens _ hseq =>
    obtain ⟨-, hwr⟩ := Bool.and_eq_true_iff.1 h
    simp only [hseq] at hwr
    refine levelsFit_nextPixel (fun hinit => (hdcKeepsRst s.out).trans (hheld hinit)) ?_ ?_
    · simp [replay, outAfter, levelOf_withLine]
    · exact (leavesLine_line true hdcwr.symm s.out).trans hwr
  | pixelUnreadable => exact levelsFit_of_rstHeld hheld (.inr (.inl rfl))
  | pixelRead _ hseq =>
    obtain ⟨hrst, hlevels⟩ := Bool.and_eq_true_iff.1 h
    simp only [hseq, Bool.and_eq_true] at hlevels
    simp [Machine.levelsFit, coreLevels, hlevels.1, hrst]
  | @pixelGoesOn n p q _ hseq hnext =>
    obtain ⟨hrst, hlevels⟩ := Bool.and_eq_true_iff.1 h
    simp only [hseq, Bool.and_eq_true] at hlevels
    obtain ⟨hdc, hcore⟩ := hlevels
    have hkeeps {l : Line} (hd : l ∉ s.config.pins.d.toList) (hw : l ≠ s.config.pins.wr) :=
      levelOf_replay_of_leavesLine (coreEvents_leaveLine s.cfg .colour s.pixel p hd hw) s.out
    have hnextLevels := coreLevels_nextCore s.cfg .colour s.pixel hcore hnext
    refine Bool.and_eq_true_iff.2 ⟨?_, Bool.and_eq_true_iff.2 ⟨(hkeeps hdcd hdcwr).trans hdc, hnextLevels⟩⟩
    exact (congrArg (!s.status.initDone || ·) (hkeeps hrstd hwrrst.symm)).trans hrst
  | @pixelEnds n p _ hseq hnext =>
    obtain ⟨-, hlevels⟩ := Bool.and_eq_true_iff.1 h
    simp only [hseq, Bool.and_eq_true] at hlevels
    obtain ⟨hdc, hcore⟩ := hlevels
    have hkeeps {l : Line} (hd : l ∉ s.config.pins.d.toList) (hw : l ≠ s.config.pins.wr) :=
      levelOf_replay_of_leavesLine (coreEvents_leaveLine s.cfg .colour s.pixel p hd hw) s.out
    exact levelsFit_nextPixel (fun hinit => (hkeeps hrstd hwrrst.symm).trans (hheld hinit)) ((hkeeps hdcd hdcwr).trans hdc)
      (levelOf_wr_of_nextCore_none s.cfg .colour s.pixel hcore hnext)

end

/-! ## Other agents -/

/-- The signal lines of a board. -/
theorem signalLines_mem (pins : Pins) : pins.dc ∈ signalLines pins ∧ pins.wr ∈ signalLines pins ∧ pins.rst ∈ signalLines pins ∧
    ∀ p ∈ pins.d.toList, p ∈ signalLines pins := by
  refine ⟨by simp [signalLines], by simp [signalLines], by simp [signalLines], fun p hp => ?_⟩
  simp only [signalLines, List.mem_append]
  exact .inl hp

section

variable {b : Board} {v w : Word} (h : ∀ p ∈ signalLines b.cfg.pins, levelOf v p = levelOf w p)

include h

/-- A transfer's levels are read off the signal lines: a set mask names data lines alone. -/
theorem coreLevels_congr (t : LutPair) (i : Byte) (x : BusWord) (p : CorePhase) :
    coreLevels b.cfg t i x v p = coreLevels b.cfg t i x w p := by
  obtain ⟨-, hwr, -, hdata⟩ := signalLines_mem b.cfg.pins
  have hword := dataWord_congr b.cfg.pins fun p hp => h p (hdata p hp)
  have hset : v &&& lutRead b.cfg t.setTable i = w &&& lutRead b.cfg t.setTable i := by
    refine word_ext_level fun l => ?_
    rw [levelOf_and, levelOf_and]
    by_cases hl : l ∈ signalLines b.cfg.pins
    · rw [h l hl]
    · have hd : l ∉ b.cfg.pins.d.toList := fun hd => hl (hdata l hd)
      have hw : l ≠ b.cfg.pins.wr := fun hw => hl (hw ▸ hwr)
      rw [(b.levelOf_masks t i hd hw).1, Bool.and_false, Bool.and_false]
  cases p <;> simp only [coreLevels, hword, hset, h _ hwr]

theorem txLevels_congr (x : ByteTx) (p : TxPhase) : txLevels b.cfg x v p = txLevels b.cfg x w p := by
  obtain ⟨hdc, -⟩ := signalLines_mem b.cfg.pins
  cases p with
  | dc => rfl
  | core p => simp only [txLevels, h _ hdc, coreLevels_congr h]

end

/-- So are the levels at every position. -/
theorem levelsFit_congr {s : State} {v : Word} (ow : List OtherWrite)
    (h : ∀ p ∈ signalLines s.config.pins, levelOf v p = levelOf s.out p) :
    levelsFit { s with out := v, others := ow } = levelsFit s := by
  obtain ⟨hdc, hwr, hrst, -⟩ := signalLines_mem s.config.pins
  have htx := txLevels_congr (b := s.cfg) h
  have hcore := coreLevels_congr (b := s.cfg) h
  simp only [State.config] at hdc hwr hrst h
  simp only [levelsFit, State.config, htx, hcore, h _ hdc, h _ hwr, h _ hrst]

/-! ## Whole requests -/

theorem levelOf_replay_beginEvents_rst (b : Board) (v : Word) :
    levelOf (replay v (beginEvents b.cfg)) b.cfg.pins.rst = true := by
  rw [beginEvents_eq_reset_append, replay_append, levelOf_replay_of_leavesLine (afterPulseEvents_leave_rst b)]
  exact levelOf_replay_resetEvents_rst b.cfg v

/-- A whole request ends idle or faulted. -/
theorem bodyOf_seq (i : Instr) (s : State) : (bodyOf i s).seq = .idle ∨ (bodyOf i s).seq = .faulted := by
  cases i with
  | begin => rw [bodyOf_begin]; exact .inl rfl
  | setwin => rw [bodyOf_setwin]; exact .inl rfl
  | render =>
    obtain ⟨is, hlen, hread, hstop⟩ := exists_readable_prefix s.fb s.latches (pixelCount s.latches)
    rw [bodyOf]
    by_cases hfull : is.length = pixelCount s.latches
    · rw [renderBody_of_readable is s hfull hread]
      exact .inl rfl
    · have hshort : is.length < pixelCount s.latches := by omega
      rw [renderBody_of_unreadable is s hshort hread (hstop hshort)]
      exact .inr rfl
  | wrcmd => rw [bodyOf_wrcmd]; exact .inl rfl
  | wrdata => rw [bodyOf_wrdata]; exact .inl rfl

/-- RST is held over a whole request: BEGIN leaves it high, and no other request touches it or `INIT_DONE`. -/
theorem rstHeld_bodyOf {i : Instr} {s : State} (hbegins : Begins i s) (h : RstHeld s) : RstHeld (bodyOf i (begun i s)) := by
  by_cases hi : i = .begin
  · subst hi
    rw [bodyOf_begin]
    intro _
    change levelOf (replay s.out (beginEvents s.config)) s.config.pins.rst = true
    exact levelOf_replay_beginEvents_rst s.cfg s.out
  · have hexec := exec_of_begins hbegins
    obtain ⟨es, hemits, -, hlines⟩ := exec_emits hexec
    obtain ⟨⟨-, -, hrstd, -⟩, -, hdcrst, -, -, hwrrst, -⟩ := controlLines_distinct s.cfg.nodup
    intro hinit
    rw [State.config, hemits.cfg]
    exact (hlines _ hrstd hwrrst.symm hdcrst.symm fun h => absurd h hi).trans (h ((exec_initDone hi hexec).symm.trans hinit))

/-- Settles O55. -/
theorem stepKeepsTheLineLevels : Obligations.StepKeepsTheLineLevels := fun s t hinv h hstep => by
  have hheld := rstHeld_of_levelsFit h
  cases step_cases hstep with
  | advanced hu hadvance =>
    have hu' := hu.seqInv hinv
    obtain ⟨_, _, _, _, _, _, -, rfl⟩ := hu
    exact hadvance.levelsFit hu' h
  | turnedAway hu haway =>
    obtain ⟨_, _, _, _, _, _, -, rfl⟩ := hu
    cases haway with
    | busy | rejected => exact levelsFit_of_rstHeld hheld (.inr (.inl rfl))
    | held => exact h
  | started hu i =>
    obtain ⟨_, _, _, _, _, _, -, rfl⟩ := hu
    have hrst := (Bool.and_eq_true_iff.1 h).1
    refine Bool.and_eq_true_iff.2 ⟨hrst, ?_⟩
    cases i <;> rfl
  | called hu _ _ _ i _ hbegins =>
    obtain ⟨_, _, _, _, _, _, -, rfl⟩ := hu
    exact levelsFit_of_rstHeld (rstHeld_bodyOf hbegins hheld) ((bodyOf_seq i _).imp id .inl)
  | reset hu => exact levelsFit_of_rstHeld nofun (.inl rfl)
  | hosted hu | memory hu =>
    obtain ⟨_, _, _, _, _, _, -, rfl⟩ := hu
    exact h
  | @otherAgent u hu set clr hmask =>
    have hlines : ∀ p ∈ signalLines u.config.pins, levelOf (applyMasks u.out set clr) p = levelOf u.out p := by
      obtain ⟨_, _, _, _, _, _, -, rfl⟩ := hu
      exact fun p hp => levelOf_applyMasks_of_miss (b := s.cfg) hmask s.out hp
    refine (levelsFit_congr _ hlines).trans ?_
    obtain ⟨_, _, _, _, _, _, -, rfl⟩ := hu
    exact h

end Sys2Proof.Machine
end

section
/-! The statement about the reset pulse (41_panel_init.md R174; 70_reset_and_hazards.md R296), and the invariants at reset
(10_state.md R51). -/

namespace Sys2Proof.Machine

/-! ## The reset pulse in a trace -/

/-- Appended events may hold mask writes once the pulse's last wait is there. -/
theorem noTransferBeforePulse_append (as bs : List Event) : noTransferBeforePulse (as ++ bs) = true ↔
    noTransferBeforePulse as = true ∧ (.delay tRstPost ∈ as ∨ noTransferBeforePulse bs = true) := by
  induction as with
  | nil => simp [noTransferBeforePulse]
  | cons e as ih =>
    cases e with
    | set | clr => simp [noTransferBeforePulse]
    | line => simpa [noTransferBeforePulse] using ih
    | delay n =>
      by_cases hn : n = tRstPost
      · simp [noTransferBeforePulse, hn]
      · simpa [noTransferBeforePulse, hn, Ne.symm hn] using ih

/-- The pulse has completed in the trace of a block that is past it. -/
def PulseDone (s : State) : Prop := .delay tRstPost ∈ s.trace

theorem pulseFirst_iff (s : State) : pulseFirst s = true ↔ noTransferBeforePulse s.trace = true ∧
    (s.status.initDone = true ∨ pastPulse s.seq = true → PulseDone s) := by
  simp only [pulseFirst, PulseDone, Bool.and_eq_true, Bool.or_eq_true, Bool.not_eq_true', ← Bool.not_eq_true,
    List.contains_iff_mem, Decidable.imp_iff_not_or]

/-- Whatever follows a completed pulse keeps the invariant. -/
theorem pulseFirst_of_done {s t : State} {es : List Event} (hfirst : pulseFirst s = true) (hdone : PulseDone s)
    (htrace : t.trace = s.trace ++ es) : pulseFirst t = true := by
  obtain ⟨htransfers, -⟩ := (pulseFirst_iff s).1 hfirst
  refine (pulseFirst_iff t).2 ⟨?_, fun _ => ?_⟩
  · rw [htrace]
    exact (noTransferBeforePulse_append _ _).2 ⟨htransfers, .inl hdone⟩
  · rw [PulseDone, htrace]
    exact List.mem_append_left _ hdone

/-- A step without an event keeps the invariant where it brings the block no further. -/
theorem pulseFirst_of_sameTrace {s t : State} (hfirst : pulseFirst s = true) (htrace : t.trace = s.trace)
    (hpast : t.status.initDone = true ∨ pastPulse t.seq = true → s.status.initDone = true ∨ pastPulse s.seq = true) :
    pulseFirst t = true := by
  obtain ⟨htransfers, hdone⟩ := (pulseFirst_iff s).1 hfirst
  refine (pulseFirst_iff t).2 ⟨htrace ▸ htransfers, fun h => ?_⟩
  rw [PulseDone, htrace]
  exact hdone (hpast h)

/-- Before the pulse has completed the block performs line writes and waits alone. -/
theorem pulseFirst_pulseStep {s : State} {q q' : Seq} {e : Event} (hstep : PulseStep s.config q e q') (hseq : s.seq = q)
    (hinit : s.status.initDone = false) (h : pulseFirst s = true) : pulseFirst (goto q' (performEvents [e] s)) = true := by
  obtain ⟨htransfers, hdone⟩ := (pulseFirst_iff s).1 h
  have hquiet : noTransferBeforePulse (s.trace ++ [e]) = true :=
    (noTransferBeforePulse_append _ _).2 ⟨htransfers, .inr (by cases hstep <;> rfl)⟩
  refine (pulseFirst_iff _).2 ⟨hquiet, fun hpast => List.mem_append.2 ?_⟩
  cases hstep with
  | waitPost => exact .inr List.mem_cons_self
  | waitSleepExit => exact .inl (hdone (.inr (by rw [hseq]; rfl)))
  | wrHigh | rstHigh | waitPre | rstLow | waitLow | rstHighAgain => simp [hinit, pastPulse] at hpast

/-- Outside BEGIN's pulse a request in progress has the pulse behind it: it is past it, or `INIT_DONE = 1`. -/
theorem pastPulse_of_transferAt {s : State} {at_ : TxPhase → Seq} {x : ByteTx} {fin : State → State} {p : TxPhase}
    (hat : TransferAt s at_ x fin) (hseq : s.seq = at_ p) (hpos : positionFits s = true) :
    s.status.initDone = true ∨ pastPulse s.seq = true := by
  cases hat with
  | initSeq | sleepExit | displayOn => exact .inr (by rw [hseq]; rfl)
  | request | window | renderWindow =>
    simp only [positionFits, hseq, Bool.and_eq_true] at hpos
    simp [hpos]

/-- A step of the block keeps the invariant, position by position. -/
theorem Advanced.pulseFirst {s t : State} (hstep : Advanced s t) (hinv : SeqInv s = true) (h : pulseFirst s = true) :
    pulseFirst t = true := by
  obtain ⟨hpos, -⟩ := (SeqInv_iff s).1 hinv
  have behind (hpast : s.status.initDone = true ∨ pastPulse s.seq = true) : Machine.pulseFirst t = true := by
    obtain ⟨es, -, hemits⟩ := hstep.emits
    exact pulseFirst_of_done h (((pulseFirst_iff s).1 h).2 hpast) hemits.trace
  cases hstep with
  | waits => exact h
  | pulse _ hseq hpulse =>
    refine pulseFirst_pulseStep hpulse hseq ?_ h
    cases hpulse <;> simp_all [positionFits]
  | txGoesOn _ hat hseq | txEnds _ hat hseq => exact behind (pastPulse_of_transferAt hat hseq hpos)
  | windowSent _ hseq | streamOpens _ hseq | pixelUnreadable _ hseq | pixelRead _ hseq | pixelGoesOn _ hseq
  | pixelEnds _ hseq =>
    simp only [positionFits, hseq, Bool.and_eq_true] at hpos
    exact behind (.inl (by simp [hpos]))

/-- BEGIN performs its pulse before its transfers. -/
theorem beginEvents_pulseFirst (c : Config) :
    noTransferBeforePulse (beginEvents c) = true ∧ .delay tRstPost ∈ beginEvents c := by
  have hpulse : .delay tRstPost ∈ resetEvents c := by simp [resetEvents]
  rw [beginEvents_eq_reset_append]
  exact ⟨(noTransferBeforePulse_append _ _).2 ⟨rfl, .inl hpulse⟩, List.mem_append_left _ hpulse⟩

/-- A whole request keeps the invariant: BEGIN brings its pulse along, and every other request has it behind it. -/
theorem pulseFirst_bodyOf {i : Instr} {s : State} (hbegins : Begins i s) (h : pulseFirst s = true) :
    pulseFirst (bodyOf i (begun i s)) = true := by
  have behind (hinit : s.status.initDone = true) : pulseFirst (bodyOf i (begun i s)) = true := by
    obtain ⟨es, hemits, -⟩ := exec_emits (exec_of_begins hbegins)
    exact pulseFirst_of_done h (((pulseFirst_iff s).1 h).2 (.inl hinit)) hemits.trace
  cases i with
  | begin =>
    obtain ⟨htransfers, -⟩ := (pulseFirst_iff s).1 h
    obtain ⟨hfirst, hdone⟩ := beginEvents_pulseFirst s.config
    rw [bodyOf_begin]
    exact (pulseFirst_iff _).2 ⟨(noTransferBeforePulse_append _ _).2 ⟨htransfers, .inr hfirst⟩,
      fun _ => List.mem_append_right _ hdone⟩
  | setwin => exact behind ((begins_setwin_iff _ _ _ _ s).1 hbegins).1.2
  | render => exact behind ((begins_render_iff _ _ _ _ _ s).1 hbegins).1.2
  | wrcmd => exact behind ((begins_wrcmd_iff _ s).1 hbegins).2
  | wrdata => exact behind ((begins_wrdata_iff _ s).1 hbegins).2

/-- Settles O56. -/
theorem stepKeepsThePulseFirst : Obligations.StepKeepsThePulseFirst := fun s t hinv h hstep => by
  cases step_cases hstep with
  | advanced hu hadvance =>
    have hu' := hu.seqInv hinv
    obtain ⟨_, _, _, _, _, _, -, rfl⟩ := hu
    exact hadvance.pulseFirst hu' h
  | turnedAway hu haway =>
    obtain ⟨_, _, _, _, _, _, -, rfl⟩ := hu
    cases haway with
    | busy | rejected => exact pulseFirst_of_sameTrace h rfl fun hpast => .inl (hpast.resolve_right nofun)
    | held => exact h
  | started hu i =>
    obtain ⟨_, _, _, _, _, _, -, rfl⟩ := hu
    exact pulseFirst_of_sameTrace h rfl fun hpast => .inl (hpast.resolve_right (by cases i <;> nofun))
  | called hu _ _ _ i _ hbegins =>
    obtain ⟨_, _, _, _, _, _, -, rfl⟩ := hu
    exact pulseFirst_bodyOf hbegins h
  | reset => rfl
  | hosted hu | memory hu | otherAgent hu =>
    obtain ⟨_, _, _, _, _, _, -, rfl⟩ := hu
    exact h

/-! ## The invariants at reset -/

/-- Settles O52. The trace is empty, no request is in progress and no fault is held. -/
theorem resetMeetsTheInvariants : Obligations.ResetMeetsTheInvariants := by
  refine ⟨rfl, rfl, rfl, rfl, rfl, fun c v l t h => ?_⟩
  obtain ⟨hok, rfl⟩ := (launch_eq_next_iff c v l t).1 h
  exact (historyExplainsOut_iff _).2 ⟨nofun, rfl⟩

end Sys2Proof.Machine
end

section
/-! The statements about a request left alone (10_state.md R45, R46; 60_exceptions.md R257, R264): it ends, and where it was
written event by event it ends as the whole request does. -/

namespace Sys2Proof.Machine

/-- The block left alone takes `s` to `t`. -/
abbrev Reaches : State → State → Prop := Relation.ReflTransGen fun s t => advance s = .next t

/-- A run's first step is a step of the machine. -/
theorem core_run_succ {s u : State} (h : step s = .next u) (k : Nat) :
    Sys2Proof.core.run (k + 1) s = Sys2Proof.core.run k u := run_succ_of_next (M := Sys2Proof.core) h

/-- Without a host move, what the block reaches a run reaches. -/
theorem exists_run_of_reaches {s t : State} (h : Reaches s t) (hs : s.schedule = []) :
    ∃ k, Sys2Proof.core.run k s = .next t := by
  induction h using Relation.ReflTransGen.head_induction_on with
  | refl => exact ⟨0, rfl⟩
  | @head s u hstep _ ih =>
    obtain ⟨es, -, hemits⟩ := (advance_cases hstep).emits
    obtain ⟨k, hk⟩ := ih (hemits.schedule.trans hs)
    exact ⟨k + 1, (core_run_succ ((step_nil hs).trans hstep) k).trans hk⟩

/-! ## A transfer, from any sub-phase to its end -/

/-- The events of a transfer that are still to come at sub-phase `p`. -/
def coreRest (c : Config) (t : LutPair) (i : Byte) : CorePhase → List Event
  | .set => transferEvents c t i
  | .clr => [.clr (lutRead c t.clrTable i), .line c.pins.wr true]
  | .padl _ | .wr => [.line c.pins.wr true]
  | .padh _ => []

/-- As `coreRest` for a byte transfer. -/
def txRest (c : Config) (x : ByteTx) : TxPhase → List Event
  | .dc => byteEvents c x
  | .core p => coreRest c .command x.2 p

theorem coreRest_of_some {c : Config} {p q : CorePhase} (t : LutPair) (i : Byte) (h : nextCore c p = some q) :
    coreRest c t i p = coreEvents c t i p ++ coreRest c t i q := by
  cases p with
  | set => cases h; rfl
  | clr => cases h; unfold afterClr; split <;> rfl
  | padl k => cases h; split <;> rfl
  | wr =>
    simp only [nextCore, afterWr] at h
    split at h
    · cases h
    · cases h; rfl
  | padh k =>
    simp only [nextCore] at h
    split at h
    · cases h; rfl
    · cases h

theorem coreRest_of_none {c : Config} {p : CorePhase} (t : LutPair) (i : Byte) (h : nextCore c p = none) :
    coreRest c t i p = coreEvents c t i p := by
  cases p with
  | set | clr | padl => cases h
  | wr | padh => rfl

theorem txRest_of_some {c : Config} {p q : TxPhase} (x : ByteTx) (h : nextTx c p = some q) :
    txRest c x p = txEvents c x p ++ txRest c x q := by
  cases p with
  | dc => cases h; rfl
  | core p =>
    obtain ⟨r, hr, rfl⟩ := Option.map_eq_some_iff.1 h
    exact coreRest_of_some .command x.2 hr

theorem txRest_of_none {c : Config} {p : TxPhase} (x : ByteTx) (h : nextTx c p = none) :
    txRest c x p = txEvents c x p := by
  cases p with
  | dc => cases h
  | core p => exact coreRest_of_none .command x.2 (Option.map_eq_none_iff.1 h)

/-- How many sub-phases of a transfer are to come at most: pads are finitely many (40_bus_primitive.md R145). -/
def coreRank (c : Config) : CorePhase → Nat
  | .set => c.nopHigh + c.nopLow + 4
  | .clr => c.nopHigh + c.nopLow + 3
  | .padl k => c.nopHigh + (c.nopLow - k) + 2
  | .wr => c.nopHigh + 1
  | .padh k => c.nopHigh - k

theorem coreRank_nextCore {c : Config} {p q : CorePhase} (h : nextCore c p = some q) : coreRank c q < coreRank c p := by
  cases p with
  | set => cases h; simp only [coreRank]; omega
  | clr => cases h; unfold afterClr; split <;> simp only [coreRank] <;> omega
  | padl k => cases h; split <;> simp only [coreRank] <;> omega
  | wr =>
    simp only [nextCore, afterWr] at h
    split at h
    · cases h
    · cases h; simp only [coreRank]; omega
  | padh k =>
    simp only [nextCore] at h
    split at h
    · cases h; simp only [coreRank]; omega
    · cases h

/-- Induction along the sub-phases of a transfer, from its end. -/
theorem nextCore_induction (c : Config) {motive : CorePhase → Prop}
    (h : ∀ p, (∀ q, nextCore c p = some q → motive q) → motive p) (p : CorePhase) : motive p :=
  (measure (coreRank c)).wf.induction p fun p ih => h p fun q hq => ih q (coreRank_nextCore hq)

/-- As `nextCore_induction` for a byte transfer. -/
theorem nextTx_induction (c : Config) {motive : TxPhase → Prop}
    (h : ∀ p, (∀ q, nextTx c p = some q → motive q) → motive p) (p : TxPhase) : motive p := by
  have hcore (q : CorePhase) : motive (.core q) := by
    induction q using nextCore_induction c with
    | h q ih =>
      refine h _ fun r hr => ?_
      obtain ⟨t, ht, rfl⟩ := Option.map_eq_some_iff.1 hr
      exact ih t ht
  cases p with
  | dc => exact h _ fun q hq => by cases hq; exact hcore _
  | core p => exact hcore p

section

variable {s : State} {at_ : TxPhase → Seq} {x : ByteTx} {fin : State → State}

/-- Which transfer it is, and what follows it, is read off the configuration and the latches. -/
theorem TransferAt.moved (h : TransferAt s at_ x fin) (q : Seq) (es : List Event) :
    TransferAt (goto q (performEvents es s)) at_ x fin := by
  cases h with
  | request => exact .request
  | initSeq hj => exact .initSeq (s := goto q (performEvents es s)) hj
  | sleepExit => exact .sleepExit
  | displayOn => exact .displayOn
  | window hj => exact .window (s := goto q (performEvents es s)) hj
  | renderWindow hj => exact .renderWindow (s := goto q (performEvents es s)) hj

/-- What follows a transfer sets the position. -/
theorem TransferAt.fin_goto (h : TransferAt s at_ x fin) (q : Seq) (es : List Event) (u : State) :
    fin (performEvents es (goto q u)) = fin (performEvents es u) := by
  cases h with
  | request | sleepExit | displayOn => rfl
  | initSeq | window | renderWindow => dsimp only; split <;> rfl

/-- A transfer runs to its end. -/
theorem reaches_transferAt (p : TxPhase) (hbusy : s.status.busy = true) (hat : TransferAt s at_ x fin)
    (hseq : s.seq = at_ p) : Reaches s (fin (performEvents (txRest s.config x p) s)) := by
  obtain ⟨c, hc⟩ : ∃ c, s.config = c := ⟨_, rfl⟩
  rw [hc]
  induction p using nextTx_induction c generalizing s with
  | h p ih =>
    have hstep := advance_of_transferAt hbusy hat hseq
    rw [hc] at hstep
    cases hnext : nextTx c p with
    | none =>
      rw [hnext, continueTx_none] at hstep
      rw [txRest_of_none x hnext]
      exact .single hstep
    | some q =>
      rw [hnext, continueTx_some] at hstep
      have hrest := ih (s := goto (at_ q) (performEvents (txEvents c x p) s)) q hnext hbusy (hat.moved _ _) rfl hc
      rw [hat.fin_goto, performEvents_performEvents, ← txRest_of_some x hnext] at hrest
      exact .head hstep hrest

end

/-! ## A list of transfers -/

/-- The lists of transfers of BEGIN, SETWIN and RENDER: where each stands, and the position after it (41_panel_init.md R171;
42_addr_window.md R201; 43_pixel_stream.md R221). -/
inductive ListAt (s : State) : List ByteTx → (Nat → TxPhase → Seq) → Seq → Prop
  | initSeq : ListAt s (initTxs s.config) .bSeq (.bSlp .dc)
  | window : ListAt s (windowTxs s.config s.latches) .wTx .wDc
  | renderWindow : ListAt s (windowTxs s.config s.latches) .rWinTx .rWinDc

section

variable {s : State} {l : List ByteTx} {at_ : Nat → TxPhase → Seq} {done : Seq}

theorem ListAt.transferAt (h : ListAt s l at_ done) {j : Nat} {x : ByteTx} (hj : l[j]? = some x) : TransferAt s (at_ j) x
    fun u => if j + 1 < l.length then goto (at_ (j + 1) .dc) u else goto done u := by
  cases h with
  | initSeq => exact .initSeq hj
  | window => exact .window hj
  | renderWindow => exact .renderWindow hj

theorem ListAt.moved (h : ListAt s l at_ done) (q : Seq) (es : List Event) :
    ListAt (goto q (performEvents es s)) l at_ done := by
  cases h with
  | initSeq => exact .initSeq (s := goto q (performEvents es s))
  | window => exact .window (s := goto q (performEvents es s))
  | renderWindow => exact .renderWindow (s := goto q (performEvents es s))

/-- The transfers of a list run to its end. -/
theorem reaches_listAt {j : Nat} {p : TxPhase} (hbusy : s.status.busy = true) (hat : ListAt s l at_ done)
    (hj : j < l.length) (hseq : s.seq = at_ j p) : Reaches s (goto done (performEvents
      (txRest s.config l[j] p ++ (l.drop (j + 1)).flatMap (byteEvents s.config)) s)) := by
  obtain ⟨n, hn⟩ : ∃ n, l.length = j + 1 + n := ⟨l.length - (j + 1), by omega⟩
  induction n generalizing j p s with
  | zero =>
    have hlast := reaches_transferAt p hbusy (hat.transferAt (List.getElem?_eq_getElem hj)) hseq
    rw [if_neg (by omega)] at hlast
    rw [List.drop_of_length_le (by omega), List.flatMap_nil, List.append_nil]
    exact hlast
  | succ n ih =>
    have hj' : j + 1 < l.length := by omega
    have hfirst := reaches_transferAt p hbusy (hat.transferAt (List.getElem?_eq_getElem hj)) hseq
    rw [if_pos hj'] at hfirst
    have hrest := ih (s := goto (at_ (j + 1) .dc) (performEvents (txRest s.config l[j] p) s)) hbusy (hat.moved _ _) hj' rfl
      (by omega)
    rw [List.drop_eq_getElem_cons hj', List.flatMap_cons, ← performEvents_performEvents]
    exact hfirst.trans hrest

/-- A whole list, from its first transfer on. -/
theorem reaches_listAt_whole (hbusy : s.status.busy = true) (hat : ListAt s l at_ done) (hpos : 0 < l.length)
    (hseq : s.seq = at_ 0 .dc) : Reaches s (goto done (performEvents (l.flatMap (byteEvents s.config)) s)) := by
  have h := reaches_listAt hbusy hat hpos hseq
  rwa [txRest, ← List.flatMap_cons, ← List.drop_eq_getElem_cons hpos, List.drop_zero] at h

end

/-! ## A stream of pixels -/

/-- What follows a pixel sets the position. -/
theorem nextPixel_goto (q : Seq) (es : List Event) (u : State) :
    nextPixel (countPixel (performEvents es (goto q u))) = nextPixel (countPixel (performEvents es u)) := by
  unfold nextPixel
  rfl

/-- A pixel's transfer runs to its end. -/
theorem reaches_rPix {n : Nat} (p : CorePhase) {s : State} (hbusy : s.status.busy = true) (hseq : s.seq = .rPix n p) :
    Reaches s (nextPixel (countPixel (performEvents (coreRest s.config .colour s.pixel p) s))) := by
  obtain ⟨c, hc⟩ : ∃ c, s.config = c := ⟨_, rfl⟩
  rw [hc]
  induction p using nextCore_induction c generalizing s with
  | h p ih =>
    have hstep := advance_of_rPix hbusy hseq
    rw [hc] at hstep
    cases hnext : nextCore c p with
    | none =>
      rw [hnext, continueTx_none] at hstep
      rw [coreRest_of_none _ _ hnext]
      exact .single hstep
    | some q =>
      rw [hnext, continueTx_some] at hstep
      have hrest := ih (s := goto (.rPix n q) (performEvents (coreEvents c .colour s.pixel p) s)) q hnext hbusy rfl hc
      rw [nextPixel_goto, performEvents_performEvents, goto_pixel, performEvents_pixel, ← coreRest_of_some _ _ hnext] at hrest
      exact .head hstep hrest

/-- A stream sets the position itself. -/
theorem closeStream_sendPixels_goto (k : Nat) (q : Seq) (s : State) :
    closeStream (sendPixels k (goto q s)) = closeStream (sendPixels k s) := by
  cases k <;> rfl

/-- With `k` pixels owed the block performs `k` turns of the loop. -/
theorem reaches_nextPixel (k : Nat) {s : State} (hbusy : s.status.busy = true) (htotal : s.total = s.sent + k) :
    Reaches (nextPixel s) (closeStream (sendPixels k s)) := by
  induction k generalizing s with
  | zero =>
    have hdone : nextPixel s = complete s := if_neg (by omega)
    rw [hdone]
    exact .refl
  | succ k ih =>
    have hread : nextPixel s = goto (.rRd s.sent) s := if_pos (by omega)
    rw [hread]
    cases hbyte : readPixel s.fb s.latches s.sent with
    | none =>
      rw [sendPixels_of_unreadable k s hbyte]
      exact .single (advance_of_unreadable (s := goto (.rRd s.sent) s) hbusy rfl hbyte)
    | some i =>
      have hheld := advance_of_readable (s := goto (.rRd s.sent) s) hbusy rfl hbyte
      have hsent : Reaches (goto (.rPix s.sent .set) (holdPixel i (goto (.rRd s.sent) s))) (nextPixel (streamPixel i s)) := by
        have h := reaches_rPix (s := goto (.rPix s.sent .set) (holdPixel i (goto (.rRd s.sent) s))) .set hbusy rfl
        rw [nextPixel_goto] at h
        rw [streamPixel, transfer_eq_performEvents]
        exact h
      have hcounted : (streamPixel i s).total = (streamPixel i s).sent + k :=
        htotal.trans (Nat.add_right_comm s.sent k 1)
      have hrest := ih (s := streamPixel i s) hbusy hcounted
      have hturn : sendPixels (k + 1) s = sendPixels k (streamPixel i s) := by
        simp only [sendPixels, sendPixel_of_read s i hbyte]
        rfl
      rw [hturn]
      exact .head hheld (hsent.trans hrest)

/-! ## Whole requests, from their first phase -/

/-- SETWIN's transfers and its DC write, from the first transfer on. -/
theorem reaches_setwin {s : State} (hbusy : s.status.busy = true) (hseq : s.seq = .wTx 0 .dc) :
    Reaches s (complete (performEvents (windowEvents s.config s.latches) s)) := by
  have htransfers := reaches_listAt_whole hbusy .window (Nat.succ_pos 10) hseq
  have hdc := advance_of_wDc (s := goto .wDc (performEvents ((windowTxs s.config s.latches).flatMap (byteEvents s.config)) s))
    hbusy rfl
  rw [windowEvents, ← performEvents_performEvents]
  exact htransfers.tail hdc

/-- As the stream opens `N` pixels are owed. -/
theorem reaches_openStream {s : State} (hbusy : s.status.busy = true) :
    Reaches (nextPixel (openStream s)) (closeStream (sendPixels (pixelCount s.latches) (openStream s))) :=
  reaches_nextPixel (s := openStream s) (pixelCount s.latches) hbusy (Nat.zero_add _).symm

theorem reaches_render {s : State} (hbusy : s.status.busy = true) (hseq : s.seq = .rWinTx 0 .dc) :
    Reaches s (renderBody s) := by
  have htransfers := reaches_listAt_whole hbusy .renderWindow (Nat.succ_pos 10) hseq
  have hdc := advance_of_rWinDc
    (s := goto .rWinDc (performEvents ((windowTxs s.config s.latches).flatMap (byteEvents s.config)) s)) hbusy rfl
  have hopened : openStream (performEvents [.line s.config.pins.dc true]
      (goto .rWinDc (performEvents ((windowTxs s.config s.latches).flatMap (byteEvents s.config)) s))) =
      goto .rWinDc (streamOpened s) := by
    rw [streamOpened, windowEvents, ← performEvents_performEvents]
    rfl
  have hstream := reaches_openStream (s := performEvents [.line s.config.pins.dc true]
    (goto .rWinDc (performEvents ((windowTxs s.config s.latches).flatMap (byteEvents s.config)) s))) hbusy
  rw [hopened, closeStream_sendPixels_goto] at hstream
  rw [renderBody_eq_closeStream]
  exact (htransfers.tail hdc).trans (hopened ▸ hstream)

/-- From BEGIN's position `q` the block performs `es` and completes BEGIN. -/
def BeginRuns (c : Config) (q : Seq) (es : List Event) : Prop := ∀ s : State, s.config = c → s.status.busy = true →
  s.seq = q → Reaches s (completeInit (performEvents es s))

namespace BeginRuns

variable {c : Config}

/-- Positions outside BEGIN's transfers take one step each. -/
theorem pulse {q q' : Seq} {e : Event} {es : List Event} (hstep : PulseStep c q e q') (h : BeginRuns c q' es) :
    BeginRuns c q (e :: es) := fun s hc hbusy hseq => by
  have hrest := h (goto q' (performEvents [e] s)) hc hbusy rfl
  rw [← List.singleton_append, ← performEvents_performEvents]
  exact .head (advance_of_pulseStep hbusy hseq (hc ▸ hstep)) hrest

theorem displayOn (p : TxPhase) : BeginRuns c (.bOn p) (txRest c (commandTx c.opDispon) p) := fun s hc hbusy hseq => by
  subst hc
  exact reaches_transferAt p hbusy .displayOn hseq

theorem waitSleepExit : BeginRuns c .bD4 (.delay tSlpout :: byteEvents c (commandTx c.opDispon)) :=
  pulse .waitSleepExit (displayOn .dc)

theorem sleepExit (p : TxPhase) : BeginRuns c (.bSlp p)
    (txRest c (commandTx c.opSlpout) p ++ .delay tSlpout :: byteEvents c (commandTx c.opDispon)) :=
  fun s hc hbusy hseq => by
    subst hc
    rw [← performEvents_performEvents]
    exact (reaches_transferAt p hbusy .sleepExit hseq).trans (waitSleepExit (goto .bD4 (performEvents _ s)) rfl hbusy rfl)

theorem initSeq (j : Nat) (p : TxPhase) (hj : j < (initTxs c).length) : BeginRuns c (.bSeq j p)
    (txRest c (initTxs c)[j] p ++ ((initTxs c).drop (j + 1)).flatMap (byteEvents c) ++
      (byteEvents c (commandTx c.opSlpout) ++ .delay tSlpout :: byteEvents c (commandTx c.opDispon))) :=
  fun s hc hbusy hseq => by
    subst hc
    rw [← performEvents_performEvents]
    exact (reaches_listAt hbusy .initSeq hj hseq).trans (sleepExit .dc (goto (.bSlp .dc) (performEvents _ s)) rfl hbusy rfl)

/-- From the end of the pulse on. -/
theorem afterPulse : BeginRuns c (.bSeq 0 .dc) (afterPulseEvents c) := by
  have h := initSeq (c := c) 0 .dc (length_initTxs_pos c)
  rw [txRest, ← List.flatMap_cons, ← List.drop_eq_getElem_cons (length_initTxs_pos c), List.drop_zero] at h
  simpa [afterPulseEvents] using h

theorem waitPost : BeginRuns c .bD3 (.delay tRstPost :: afterPulseEvents c) := pulse .waitPost afterPulse
theorem rstHighAgain : BeginRuns c .bRhi (.line c.pins.rst true :: .delay tRstPost :: afterPulseEvents c) :=
  pulse .rstHighAgain waitPost
theorem waitLow : BeginRuns c .bD2 (.delay tRstLow :: (resetEvents c).drop 5 ++ afterPulseEvents c) :=
  pulse .waitLow rstHighAgain
theorem rstLow : BeginRuns c .bRlo ((resetEvents c).drop 3 ++ afterPulseEvents c) := pulse .rstLow waitLow
theorem waitPre : BeginRuns c .bD1 ((resetEvents c).drop 2 ++ afterPulseEvents c) := pulse .waitPre rstLow
theorem rstHigh : BeginRuns c .bRst ((resetEvents c).drop 1 ++ afterPulseEvents c) := pulse .rstHigh waitPre

theorem whole : BeginRuns c .bWr (beginEvents c) := by
  rw [beginEvents_eq_reset_append]
  exact pulse .wrHigh rstHigh

end BeginRuns

/-- A request that begins, left alone, ends as its body does. -/
theorem reaches_bodyOf {i : Instr} {s : State} : Reaches (begun i s) (bodyOf i (begun i s)) := by
  cases i with
  | begin => rw [bodyOf_begin]; exact BeginRuns.whole _ rfl rfl rfl
  | setwin => rw [bodyOf_setwin]; exact reaches_setwin rfl rfl
  | render => exact reaches_render rfl rfl
  | wrcmd b =>
    rw [bodyOf_wrcmd]
    exact reaches_transferAt .dc rfl .request rfl
  | wrdata b =>
    rw [bodyOf_wrdata]
    exact reaches_transferAt .dc rfl .request rfl

/-- Both ways of running a request present it alike; where it begins, the block left alone performs its body. -/
theorem callRequest_reached (v : Word) (s : State) : ∃ t, callRequest v s = .next t ∧ Reaches (startRequest v s) t := by
  cases hdecode : decode ⟨v, s.req1, s.req2, s.req3⟩ with
  | error _ =>
    simp only [callRequest, startRequest, State.descriptor, hdecode]
    exact ⟨_, rfl, .refl⟩
  | ok i =>
    simp only [callRequest, startRequest, State.descriptor, hdecode, exec_eq_runRequest, runRequest]
    rcases start_cases i { s with req0 := v } with ⟨t, hstart, -⟩ | ⟨-, hstart⟩
    · rw [hstart]
      exact ⟨t, rfl, .refl⟩
    · rw [hstart]
      exact ⟨_, rfl, reaches_bodyOf⟩

/-- Presenting a request takes no move from the schedule. -/
theorem startRequest_schedule (v : Word) (s : State) : (startRequest v s).schedule = s.schedule := by
  rcases startRequest_cases v s with haway | ⟨i, -, hstart⟩
  · exact (Emits.turnedAway haway).schedule
  · rw [hstart]
    rfl

/-- Settles O50. -/
theorem eventByEventRunIsTheWholeRequest : Obligations.EventByEventRunIsTheWholeRequest := fun s v _ => by
  obtain ⟨t, hcall, hreach⟩ := callRequest_reached v { s with schedule := [] }
  obtain ⟨k, hrun⟩ := exists_run_of_reaches hreach (startRequest_schedule v _)
  have hwrite : step { s with schedule := [.write (registerAddress s 0x00) 4 v] } =
      .next (startRequest v { s with schedule := [] }) :=
    hostWrite_registerAddress { s with schedule := [] } v (by decide) (by decide)
  exact ⟨k, ((core_run_succ hwrite k).trans hrun).trans hcall.symm⟩

/-! ## Requests end -/

/-- Left alone, the block at `s` ends the request in progress, at the idle or the faulted position. -/
def Ends (s : State) : Prop := ∃ t, Reaches s t ∧ t.status.busy = false ∧ (t.seq = .idle ∨ t.seq = .faulted)

theorem Ends.of_reaches {s t : State} (h : Reaches s t) (hend : Ends t) : Ends s := by
  obtain ⟨u, hu, hended⟩ := hend
  exact ⟨u, h.trans hu, hended⟩

theorem ends_complete {s t : State} (h : Reaches s (complete t)) : Ends s := ⟨_, h, rfl, .inl rfl⟩

theorem ends_completeInit {s t : State} (h : Reaches s (completeInit t)) : Ends s := ⟨_, h, rfl, .inl rfl⟩

theorem BeginRuns.ends {c : Config} {q : Seq} {es : List Event} (h : BeginRuns c q es) {s : State} (hc : s.config = c)
    (hbusy : s.status.busy = true) (hseq : s.seq = q) : Ends s := ends_completeInit (h s hc hbusy hseq)

/-- A stream ends completed, or stopped at an unreadable pixel. -/
theorem ends_nextPixel (k : Nat) {s : State} (hbusy : s.status.busy = true) (htotal : s.total = s.sent + k) :
    Ends (nextPixel s) := by
  refine ⟨_, reaches_nextPixel k hbusy htotal, ?_⟩
  clear hbusy htotal
  induction k generalizing s with
  | zero => exact ⟨rfl, .inl rfl⟩
  | succ k ih =>
    cases hread : readPixel s.fb s.latches s.sent with
    | none =>
      rw [sendPixels_of_unreadable k s hread]
      exact ⟨rfl, .inr rfl⟩
    | some i =>
      simp only [sendPixels, sendPixel_of_read s i hread]
      exact ih

theorem ends_openStream {s : State} (hbusy : s.status.busy = true) : Ends (nextPixel (openStream s)) :=
  ends_nextPixel (s := openStream s) (pixelCount s.latches) hbusy (Nat.zero_add _).symm

/-- From every position that fits, the request in progress ends. -/
theorem ends_of_positionFits {s : State} (hbusy : s.status.busy = true) (hpos : positionFits s = true) : Ends s := by
  have hwDc {u : State} (hbusy : u.status.busy = true) (hseq : u.seq = .wDc) : Ends u :=
    ends_complete (.single (advance_of_wDc hbusy hseq))
  have hrWinDc {u : State} (hbusy : u.status.busy = true) (hseq : u.seq = .rWinDc) : Ends u :=
    .of_reaches (.single (advance_of_rWinDc hbusy hseq)) (ends_openStream hbusy)
  cases hseq : s.seq with
  | idle | faulted => simp [positionFits, hseq, hbusy] at hpos
  | tx p => exact ends_complete (reaches_transferAt p hbusy .request hseq)
  | bWr => exact BeginRuns.whole.ends rfl hbusy hseq
  | bRst => exact BeginRuns.rstHigh.ends rfl hbusy hseq
  | bD1 => exact BeginRuns.waitPre.ends rfl hbusy hseq
  | bRlo => exact BeginRuns.rstLow.ends rfl hbusy hseq
  | bD2 => exact BeginRuns.waitLow.ends rfl hbusy hseq
  | bRhi => exact BeginRuns.rstHighAgain.ends rfl hbusy hseq
  | bD3 => exact BeginRuns.waitPost.ends rfl hbusy hseq
  | bSeq j p =>
    simp only [positionFits, hseq, Bool.and_eq_true, decide_eq_true_eq] at hpos
    obtain ⟨⟨-, hj⟩, -⟩ := hpos
    exact (BeginRuns.initSeq j p hj).ends rfl hbusy hseq
  | bSlp p => exact (BeginRuns.sleepExit p).ends rfl hbusy hseq
  | bD4 => exact BeginRuns.waitSleepExit.ends rfl hbusy hseq
  | bOn p => exact (BeginRuns.displayOn p).ends rfl hbusy hseq
  | wTx j p =>
    simp only [positionFits, hseq, Bool.and_eq_true, decide_eq_true_eq] at hpos
    obtain ⟨⟨-, hj⟩, -⟩ := hpos
    exact .of_reaches (reaches_listAt hbusy .window hj hseq) (hwDc hbusy rfl)
  | wDc => exact hwDc hbusy hseq
  | rWinTx j p =>
    simp only [positionFits, hseq, Bool.and_eq_true, decide_eq_true_eq] at hpos
    obtain ⟨⟨-, hj⟩, -⟩ := hpos
    exact .of_reaches (reaches_listAt hbusy .renderWindow hj hseq) (hrWinDc hbusy rfl)
  | rWinDc => exact hrWinDc hbusy hseq
  | rRd n =>
    simp only [positionFits, hseq, Bool.and_eq_true, decide_eq_true_eq, beq_iff_eq] at hpos
    obtain ⟨⟨⟨-, hlt⟩, -⟩, rfl⟩ := hpos
    have hat : nextPixel s = s := (if_pos hlt).trans (goto_of_seq hseq)
    exact hat ▸ ends_nextPixel (s.total - s.sent) hbusy (by omega)
  | rPix n p =>
    simp only [positionFits, hseq, Bool.and_eq_true, decide_eq_true_eq] at hpos
    obtain ⟨⟨⟨⟨-, hlt⟩, -⟩, -⟩, -⟩ := hpos
    have howed : s.total = s.sent + 1 + (s.total - s.sent - 1) := by omega
    exact .of_reaches (reaches_rPix p hbusy hseq) (ends_nextPixel _ hbusy howed)

/-- Settles O51. -/
theorem requestsInProgressEnd : Obligations.RequestsInProgressEnd := fun s hinv hbusy hs => by
  obtain ⟨hpos, -⟩ := (SeqInv_iff s).1 hinv
  obtain ⟨t, hreach, hended⟩ := ends_of_positionFits hbusy hpos
  obtain ⟨k, hrun⟩ := exists_run_of_reaches hreach hs
  exact ⟨k, t, hrun, hended⟩

end Sys2Proof.Machine
end

section
/-! The statements about the host's side: resets (70_reset_and_hazards.md R280, R281), the register block (10_state.md R41 to
R43), the framebuffer space (20_memory.md R71), other agents (R85), and the moves of the host (30_encoding.md R112, R113). -/

namespace Sys2Proof.Machine

/-! ## Resets -/

/-- A block after a reset waits. -/
theorem step_blockReset_waits (s : State) :
    step { blockReset s with schedule := [] } = .next { blockReset s with schedule := [] } :=
  (step_nil rfl).trans (advance_of_idle rfl)

/-- Settles O42. A power-on reset is a block reset from other lines. -/
theorem resetHoldsTheLinesAndWaits : Obligations.ResetHoldsTheLinesAndWaits := fun s => by
  refine ⟨fun ms hs => ?blockReset, fun ms hs => ?powerOn⟩
  case blockReset =>
    exact ⟨_, step_cons hs, rfl, rfl, rfl, rfl, rfl, statusWord_reset, rfl, rfl, rfl, rfl, step_blockReset_waits _⟩
  case powerOn =>
    exact ⟨_, step_cons hs, rfl, rfl, rfl, rfl, statusWord_reset, rfl, rfl, rfl, rfl, step_blockReset_waits _⟩

/-! ## The register block -/

theorem TurnedAway.req0 {s t : State} (h : TurnedAway s t) : t.req0 = s.req0 := by cases h <;> rfl

section

variable (s : State)

theorem hostRead_registerAddress {off : Nat} (hlt : off < 0x40) (halign : off % 4 = 0) :
    hostRead (registerAddress s off) 4 s = .next { s with readback := s.readback ++ [registerAt s off] } := by
  rw [hostRead, accessOffset_registerAddress s hlt halign]

/-- Inside the register block an access of another width or alignment is refused (10_state.md R41). -/
theorem accessOffset_of_notAligned {off bytes : Nat} (hlt : off < 0x40) (h : bytes ≠ 4 ∨ off % 4 ≠ 0) :
    accessOffset s (registerAddress s off) bytes = .error .notAlignedWord := by
  simp [accessOffset, registerAddress, hlt, h]

/-- Reserved offsets read 0. -/
theorem registerAt_of_reserved {off : Nat} (h : 0x14 ≤ off) : registerAt s off = 0 := by
  simp only [registerAt]
  rw [if_neg, if_neg, if_neg, if_neg, if_neg] <;> omega

/-- STATUS and the reserved offsets ignore a write. -/
theorem writeRegister_of_ignored {off : Nat} (v : Word) (h : 0x10 ≤ off) : writeRegister off v s = s := by
  simp only [writeRegister]
  rw [if_neg, if_neg, if_neg, if_neg] <;> omega

/-- A write of `REQ0` stores its value, whatever becomes of the request. -/
theorem startRequest_req0 (v : Word) : (startRequest v s).req0 = v := by
  rcases startRequest_cases v s with haway | ⟨i, -, hstart⟩
  · exact haway.req0
  · rw [hstart]
    rfl

end

/-- The fields of the word a read of STATUS returns. -/
theorem statusWord_fields (t : Status) : (statusWord t).getLsbD 0 = t.busy ∧ (statusWord t).getLsbD 1 = t.initDone ∧
    (statusWord t).getLsbD 2 = t.fault.isSome ∧ (statusWord t).getLsbD 3 = false ∧ (statusWord t).extractLsb' 8 24 = 0 ∧
    (statusWord t).extractLsb' 4 4 = faultField t.fault := by
  obtain ⟨busy, initDone, fault⟩ := t
  cases busy <;> cases initDone <;> rcases fault with _ | _ | _ | _ | _ | _ | _ | _ <;> decide

/-- Settles O43. -/
theorem statusReadsItsFields : Obligations.StatusReadsItsFields := fun s v => by
  obtain ⟨hbusy, hinit, hfault, hzero, hhigh, hcode⟩ := statusWord_fields s.status
  refine ⟨hbusy, hinit, hfault, hzero, hhigh, hcode.trans ?_, hostRead_registerAddress s (by decide) (by decide),
    hostWrite_registerAddress s v (by decide) (by decide)⟩
  rcases s.status.fault with _ | _ | _ | _ | _ | _ | _ | _ <;> rfl

/-- Settles O44. -/
theorem requestRegistersReadBack : Obligations.RequestRegistersReadBack := fun s v hbusy => by
  have stored {off : Nat} {t : State} (hlt : off < 0x40) (halign : off % 4 = 0) (ht : writeRegister off v s = t) :
      hostWrite (registerAddress s off) 4 v s = .next t := ht ▸ hostWrite_registerAddress s v hlt halign
  have read {off : Nat} {w : Word} (hlt : off < 0x40) (halign : off % 4 = 0) (hw : registerAt s off = w) :
      hostRead (registerAddress s off) 4 s = .next { s with readback := s.readback ++ [w] } :=
    hw ▸ hostRead_registerAddress s hlt halign
  refine ⟨stored (by decide) rfl (afterReqWrite_of_idle (s := { s with req1 := v }) hbusy),
    stored (by decide) rfl (afterReqWrite_of_idle (s := { s with req2 := v }) hbusy),
    stored (by decide) rfl (afterReqWrite_of_idle (s := { s with req3 := v }) hbusy), startRequest_req0 s v,
    read (by decide) rfl rfl, read (by decide) rfl rfl, read (by decide) rfl rfl, read (by decide) rfl rfl,
    fun off hlow hlt halign => ⟨read hlt halign (registerAt_of_reserved s hlow),
      stored hlt halign (writeRegister_of_ignored s v (by omega))⟩,
    fun off bytes hlt h => ?refused⟩
  case refused =>
    have hoff := accessOffset_of_notAligned s hlt h
    exact ⟨by rw [hostRead, hoff], by rw [hostWrite, hoff]⟩

/-! ## The framebuffer space -/

namespace Memory

theorem read_write (m : Memory) (a : Nat) (v : Byte) (b : Nat) :
    (m.write a v).read b = if b = a then some v else m.read b := by
  induction m with
  | nil => simp [write, read, eq_comm]
  | cons c m ih =>
    by_cases hlt : a < c.1
    · simp [write, read, hlt, eq_comm (a := a)]
    · by_cases hat : a = c.1
      · by_cases hb : b = c.1 <;> simp [write, read, hat, hb, eq_comm (a := c.1)]
      · by_cases hb : b = c.1
        · simp [write, read, hlt, hat, hb, eq_comm (a := c.1)]
        · simp [write, read, hlt, hat, hb, eq_comm (a := c.1), ih]

theorem read_eq_none {m : Memory} {a : Nat} (h : ∀ c ∈ m, a < c.1) : m.read a = none := by
  induction m with
  | nil => rfl
  | cons c m ih =>
    rw [List.forall_mem_cons] at h
    rw [read, if_neg (Nat.ne_of_gt h.1), ih h.2]

/-- In canonical form an address is listed once, so erasing it leaves nothing there. -/
theorem read_erase {m : Memory} (hwf : wf m = true) (a b : Nat) :
    (m.erase a).read b = if b = a then none else m.read b := by
  induction m with
  | nil => simp [erase, read]
  | cons c m ih =>
    by_cases hat : c.1 = a
    · have hrest : read m a = none := read_eq_none fun d hd => hat ▸ wf_lt c m hwf d hd
      by_cases hb : b = a <;> simp [erase, read, hat, hb, hrest, eq_comm (a := a)]
    · have herase := ih ((wf_cons c m).1 hwf).2.2
      by_cases hb : c.1 = b
      · have hne : b ≠ a := hb ▸ hat
        simp [erase, read, hb, hne]
      · simp [erase, read, hat, hb, herase]

/-- Of two bytes given for one address the later one is read. -/
theorem read_ofBytes (l : List (Word × Byte)) (a : Nat) :
    (ofBytes l).read a = (l.reverse.find? fun p => p.1.toNat == a).map Prod.snd := by
  induction l using List.reverseRecOn with
  | nil => rfl
  | append_singleton l p ih =>
    rw [ofBytes, List.foldl_concat, ← ofBytes, read_write, ih, List.reverse_concat, List.find?_cons]
    by_cases hp : p.1.toNat = a
    · simp [hp]
    · rw [if_neg (Ne.symm hp), beq_false_of_ne hp]

end Memory

/-- Settles O45. -/
theorem providedBytesReadBack : Obligations.ProvidedBytesReadBack := by
  refine ⟨fun c v l t h => ?launched, fun s a v => ⟨fun hfree => ?provided, fun hfree hwf => ?withdrawn,
    fun hbusy hop hlow hhigh => ?refused⟩⟩
  case launched =>
    obtain ⟨hok, rfl⟩ := (launch_eq_next_iff c v l t).1 h
    have hread := Memory.read_ofBytes l
    refine ⟨Memory.wf_ofBytes l, hread, fun a => ?_⟩
    rw [hread]
    simp
  case provided => exact ⟨_, if_neg (by simp [hfree]), rfl, Memory.read_write s.fb a.toNat v⟩
  case withdrawn => exact ⟨_, if_neg (by simp [hfree]), rfl, Memory.read_erase hwf a.toNat⟩
  case refused =>
    have hbuffer : bufferBusy s a.toNat = true := by simp [bufferBusy, hbusy, hop, hlow, hhigh]
    exact ⟨if_pos hbuffer, if_pos hbuffer⟩

/-! ## Other agents -/

/-- Settles O46. -/
theorem otherAgentsDoNotDisturbTheBlock : Obligations.OtherAgentsDoNotDisturbTheBlock := fun s set clr h => by
  have hmask := (masks_miss_signals_iff s.cfg set clr).2 h
  have hlines : ∀ p ∈ signalLines s.config.pins, levelOf (applyMasks s.out set clr) p = levelOf s.out p :=
    fun p hp => levelOf_applyMasks_of_miss hmask s.out hp
  obtain ⟨-, -, -, hdata⟩ := signalLines_mem s.config.pins
  exact ⟨_, if_neg (not_not.2 hmask), rfl, hlines, dataWord_congr _ fun p hp => hlines p (hdata p hp)⟩

/-! ## Calls -/

/-- Settles O49. -/
theorem stepRunsTheDecodedRequest : Obligations.StepRunsTheDecodedRequest := by
  have call (s : State) (v : Word) (ms : List HostMove) (i : Instr) (hs : s.schedule = .call v :: ms)
      (hdecode : decode ⟨v, s.req1, s.req2, s.req3⟩ = .ok i) : step s = exec i { s with schedule := ms, req0 := v } := by
    rw [step_cons hs]
    simp only [hostMove, callRequest, State.descriptor, hdecode]
  refine ⟨call, fun s v ms e hs hdecode => ?illegal, fun s nbits w i h => ?fetch⟩
  case illegal =>
    rw [step_cons hs]
    simp only [hostMove, callRequest, startRequest, State.descriptor, hdecode]
  case fetch =>
    have hdecode : decode (descriptorOfNat nbits w) = .ok i := by
      unfold decodeTableWord at h
      split at h
      · cases h; assumption
      · cases h
    exact call (s.withFetchWord nbits w) _ _ i rfl hdecode

/-! ## The moves of a line -/

section

variable {s : State} {ms : List HostMove}

/-- A host write to a register, as a step. -/
theorem step_write {off : Nat} {v : Word} (hs : s.schedule = .write (s.config.regBase.toNat + off) 4 v :: ms)
    (hlt : off < 0x40) (halign : off % 4 = 0) : step s = .next (writeRegister off v { s with schedule := ms }) :=
  (step_cons hs).trans (hostWrite_registerAddress { s with schedule := ms } v hlt halign)

/-- At a block with no request in progress a write to `REQ1`, `REQ2` or `REQ3` only stores. -/
theorem step_write_req1 {v : Word} (hs : s.schedule = .write (s.config.regBase.toNat + 0x04) 4 v :: ms)
    (hbusy : s.status.busy = false) :
    step s = .next { s with req1 := v, schedule := ms } :=
  (step_write hs (by decide) rfl).trans
    (congrArg _ (afterReqWrite_of_idle (s := { s with req1 := v, schedule := ms }) hbusy))

theorem step_write_req2 {v : Word} (hs : s.schedule = .write (s.config.regBase.toNat + 0x08) 4 v :: ms)
    (hbusy : s.status.busy = false) :
    step s = .next { s with req2 := v, schedule := ms } :=
  (step_write hs (by decide) rfl).trans
    (congrArg _ (afterReqWrite_of_idle (s := { s with req2 := v, schedule := ms }) hbusy))

theorem step_write_req3 {v : Word} (hs : s.schedule = .write (s.config.regBase.toNat + 0x0C) 4 v :: ms)
    (hbusy : s.status.busy = false) :
    step s = .next { s with req3 := v, schedule := ms } :=
  (step_write hs (by decide) rfl).trans
    (congrArg _ (afterReqWrite_of_idle (s := { s with req3 := v, schedule := ms }) hbusy))

theorem step_write_req0 {v : Word} (hs : s.schedule = .write (s.config.regBase.toNat + 0x00) 4 v :: ms) :
    step s = .next (startRequest v { s with schedule := ms }) := step_write hs (by decide) rfl

/-- While a request is in progress a waiting host lets the block go on. -/
theorem step_waitIdle_of_busy (hs : s.schedule = .waitIdle :: ms) (hbusy : s.status.busy = true) : step s = advance s := by
  have hsame : { s with schedule := .waitIdle :: ms } = s := by rw [← hs]
  rw [step_cons hs, hostMove, if_pos hbusy]
  exact congrArg advance hsame

theorem step_waitIdle_of_idle (hs : s.schedule = .waitIdle :: ms) (hbusy : s.status.busy = false) :
    step s = .next { s with schedule := ms } := by
  rw [step_cons hs, hostMove, if_neg (by simp [hbusy])]

/-- Time passes at a block with no request in progress. -/
theorem run_waits (n : Nat) (hbusy : s.status.busy = false) (hs : s.schedule = List.replicate n .wait ++ ms) :
    Sys2Proof.core.run n s = .next { s with schedule := ms } := by
  induction n generalizing s with
  | zero =>
    subst hs
    rfl
  | succ n ih =>
    rw [List.replicate_succ, List.cons_append] at hs
    have hstep : step s = .next { s with schedule := List.replicate n .wait ++ ms } :=
      (step_cons hs).trans (advance_of_idle hbusy)
    exact (core_run_succ hstep n).trans (ih hbusy rfl)

/-- The moves of a request, made at a block with no request in progress, store the descriptor and present the request. -/
theorem run_requestMoves (i : Instr) (hbusy : s.status.busy = false)
    (hs : s.schedule = requestMoves s.config.regBase.toNat i ++ ms) : Sys2Proof.core.run 5 s =
      .next (startRequest (encode i).req0 { s with
        req1 := (encode i).req1, req2 := (encode i).req2, req3 := (encode i).req3, schedule := ms }) := by
  calc Sys2Proof.core.run 5 s
    _ = Sys2Proof.core.run 4 { s with schedule := descriptorMoves s.config.regBase.toNat (encode i) ++ ms } :=
      core_run_succ (step_waitIdle_of_idle hs hbusy) 4
    _ = Sys2Proof.core.run 3 _ := core_run_succ (step_write_req1 rfl (by exact hbusy)) 3
    _ = Sys2Proof.core.run 2 _ := core_run_succ (step_write_req2 rfl (by exact hbusy)) 2
    _ = Sys2Proof.core.run 1 _ := core_run_succ (step_write_req3 rfl (by exact hbusy)) 1
    _ = _ := core_run_succ (step_write_req0 rfl) 0

end

/-- Settles O60. -/
theorem lineMovesPerformTheLine : Obligations.LineMovesPerformTheLine := by
  refine ⟨⟨rfl, rfl, fun _ => rfl⟩, fun base l hwait hwaitMs => ?requests, fun s i ms hbusy hs => run_requestMoves i hbusy hs,
    fun s base i ms hbusy hs => ?busy, fun s base ms hbusy hs => step_waitIdle_of_idle hs hbusy,
    fun s base n ms hbusy hs => run_waits _ hbusy hs⟩
  case requests =>
    cases l with
    | wait => exact absurd rfl hwait
    | waitMs n => exact absurd rfl (hwaitMs n)
    | begin | setwin | render | wrcmd | wrdata | cmd => rfl
  case busy => rcases hs with hs | hs <;> exact step_waitIdle_of_busy hs hbusy

end Sys2Proof.Machine
end
